-- ==== Sys2Proof/Word.lean ====
section
/-! DEFINITION. The word types of the 6502 family: the byte (R62), the 16-bit register word, the 24-bit address (R12), and
the two data widths (R11, R37, R38). -/

namespace Sys2Proof

/-- The addressable unit, 8 bits (20_memory.md R62). -/
abbrev Byte := BitVec 8

/-- A 16-bit register or operand. -/
abbrev Word := BitVec 16

/-- A 24-bit address `bank:offset` (20_memory.md R61); on the 6502 and 65C02 the bank is 0 (R60). -/
abbrev Addr := BitVec 24

/-- The width an instruction's data or register has (10_state.md R37, R38). -/
inductive Width where
  /-- 8 bits -/
  | w8
  /-- 16 bits, 65816 native mode only -/
  | w16
  deriving DecidableEq, Repr

end Sys2Proof
end

