-- ==== Sys2Proof/Config.lean ====
section
/-! DEFINITION. What a chip and its platform fix (00_scope.md R8), as plain data, and the free values (`draw`, 00_scope.md
R12) as constants without a body. -/

namespace Sys2Proof

/-- The three variants of 00_scope.md R1, R2 (the 6510 is a 6502, the 65802 a 65816). -/
inductive Variant where
  | m6502
  | m65C02
  | m65816
  deriving DecidableEq, Repr

/-- `LDX_INDEX` (R8, R241): the index register of opcodes BE and B6. -/
inductive LdxIndex where
  | y
  | x
  deriving DecidableEq, Repr

/-- `BLOCK_MOVE_ORDER` (R8, R310): which operand byte of MVN and MVP names the destination bank. -/
inductive BlockMoveOrder where
  | dstFirst
  | srcFirst
  deriving DecidableEq, Repr

/-- What the platform has at an address (20_memory.md R64, R65, R72). -/
inductive RegionKind where
  | ram
  | rom
  /-- A device; `harmless` is the platform's statement that extra bus cycles do not disturb it (R71). -/
  | device (harmless : Bool)
  | unpopulated
  deriving DecidableEq, Repr

/-- `size` bytes from `base` on, all of one kind. -/
structure Region where
  base : Nat
  size : Nat
  kind : RegionKind
  deriving DecidableEq, Repr

/-- The configuration of 00_scope.md R8. `regions` is `Platform.mem`: the first region that holds an address decides its
kind; an address in none is RAM (DESIGN CHOICE, log 3). -/
structure Config where
  variant : Variant
  ldxIndex : LdxIndex
  blockMoveOrder : BlockMoveOrder
  regions : List Region
  deriving DecidableEq, Repr

/-- Why a byte is read. It keeps apart the free values of two reads of one address within one step (log 10). -/
inductive AccessKind where
  | fetch
  | pointer
  | data
  | stack
  | vector
  deriving DecidableEq, Repr

/-- The places where the spec writes `draw` other than a read (R162, R170, R360). -/
inductive DrawSite where
  | decimalResult
  | decimalN
  | decimalV
  | decimalZ
  | decimalC
  | resetC
  | resetX
  | resetY
  | resetS
  | resetN
  | resetV
  | resetD
  | resetZ
  | resetC0
  deriving DecidableEq, Repr

/-- The byte read at step `t` from a device or from nothing (R64, U11): a free value (log 9, 10). -/
opaque Config.freeByte (t : Nat) (k : AccessKind) (a : Nat) : Byte

/-- `draw(8)` and `draw(16)` of 00_scope.md R12 at step `t` (log 9); an 8-bit draw is its low byte. -/
opaque Config.freeWord (t : Nat) (site : DrawSite) : Word

/-- `draw(1)` of 00_scope.md R12 at step `t` (log 9). -/
opaque Config.freeBit (t : Nat) (site : DrawSite) : Bool

end Sys2Proof
end

