-- ==== Sys2Proof/Machine/State.lean ====
section
/-! DEFINITION. The state of the machine as plain data: every register of 10_state.md R20 to R47, the memory, the inputs, and
the configuration; why a step can stop; the state after reset (R47). -/

namespace Sys2Proof.Machine

/-- The hardware has no fault of any kind (60_exceptions.md R320, 20_memory.md R65): nothing raises one. -/
inductive Fault : Type where
  deriving DecidableEq, Repr

/-- The `refuse` outcomes of 00_scope.md R12; none is an event of the hardware. -/
inductive Refusal where
  /-- An instruction without a meaning; raised by no arm of this model. Safe. -/
  | notModelled (mnemonic : String)
  /-- `UnavailableOpcode` (30_encoding.md R106): the fetch of an opcode the variant does not have. Raised by the step, before
  any effect of the instruction. Safe. -/
  | unavailableOpcode (opcode : Byte)
  /-- `EmulationStackWrap` (40_addressing_modes.md R154): raised by PEA, PEI, PER, PHD, PLD, JSL, RTL, JSR (addr,X) and PLB
  in emulation mode when their accesses would leave page 1, before any effect. Safe. -/
  | emulationStackWrap
  /-- `DeviceRMW` (20_memory.md R71, 93_implementation_defined.md U13): raised by the memory forms of ASL, LSR, ROL, ROR, INC,
  DEC, TRB and TSB on a device that the platform does not declare harmless, and by every instruction whose indexed access goes
  to one (ADC, SBC, AND, EOR, ORA, BIT, CMP, the loads and stores, JMP and JSR (addr,X)), before any effect. Safe. -/
  | deviceRMW
  deriving DecidableEq, Repr

/-- The run state of 10_state.md R44. -/
inductive RunState where
  | running
  /-- after WAI -/
  | waiting
  /-- after STP -/
  | stopped
  deriving DecidableEq, Repr

/-- The input levels of one step (60_exceptions.md R321). -/
structure Inputs where
  irq : Bool
  nmi : Bool
  reset : Bool
  deriving DecidableEq, Repr

/-- The written bytes of the address space in canonical form: addresses strictly rising, no byte equal to what an unlisted
address reads as (Machine/Ops.lean: Memory.wf). -/
abbrev Memory := List Host.Cell

/-- The machine. `c` is B:A (R20). -/
structure State where
  /-- the parameters of 00_scope.md R8; no step writes them (log 1, 2, 3) -/
  cfg : Config
  /-- accumulator, B in bits 15:8, A in bits 7:0 (R20) -/
  c : Word
  /-- index register X (R21) -/
  x : Word
  /-- index register Y (R22) -/
  y : Word
  /-- stack pointer (R23) -/
  s : Word
  /-- direct page register (R24) -/
  d : Word
  /-- data bank register (R25) -/
  dbr : Byte
  /-- program bank register (R26) -/
  pbr : Byte
  /-- program counter (R27) -/
  pc : Word
  /-- status register (R28) -/
  p : Byte
  /-- emulation bit (R36) -/
  e : Bool
  /-- run state (R44) -/
  run : RunState
  /-- `irq_line` (R45) -/
  irqLine : Bool
  /-- the NMI level last sampled (R321; the model's own field, log 8) -/
  nmiLine : Bool
  /-- `nmi_pending` (R45) -/
  nmiPending : Bool
  /-- `reset` (R45) -/
  resetLine : Bool
  /-- the input levels of the coming steps (R321; log 8) -/
  inputs : List Inputs
  /-- the step number t of R321; the free values are functions of it (the model's own field, log 9) -/
  time : Nat
  /-- memory (R60 to R62) -/
  mem : Memory
  deriving DecidableEq, Repr

/-- The outcome of one step or of one instruction. -/
abbrev Out := Host.Outcome State Fault Refusal

/-- The configuration of State.reset: a 65816 with the spec's parameter values and RAM everywhere (DESIGN CHOICE, log 1 to
3). -/
def State.resetConfig : Config :=
  { variant := .m65816, ldxIndex := .y, blockMoveOrder := .dstFirst, regions := [] }

/-- The machine after reset, the table of 10_state.md R47. DESIGN CHOICE values: A, B, X[7:0], Y[7:0], n, v, z, c are 0 (log
5), the vector word of an empty memory is 0x0000 (log 4), the inputs are inactive (log 8). PRESUMED: S[7:0] is
0xFD, the family's value (log 6). -/
def State.reset : State :=
  { cfg := State.resetConfig
    c := 0x0000#16
    x := 0x0000#16
    y := 0x0000#16
    s := 0x01FD#16
    d := 0x0000#16
    dbr := 0x00#8
    pbr := 0x00#8
    pc := 0x0000#16
    p := 0x34#8
    e := true
    run := .running
    irqLine := false
    nmiLine := false
    nmiPending := false
    resetLine := false
    inputs := []
    time := 0
    mem := [] }

end Sys2Proof.Machine
end

