-- ==== Sys2Proof/Machine/Flags.lean ====
section
/-! DEFINITION. The status register's flags (10_state.md R28 to R35), the width functions (R37, R38), values at a width
(00_scope.md R11), and every flag computation of 41_arithmetic.md, 42_binary.md and 43_program_flow.md. -/

namespace Sys2Proof

/-- The number of bits of a width. -/
def Width.bits : Width → Nat
  | .w8 => 8
  | .w16 => 16

/-- The number of decimal digits of a width, w/4. -/
def Width.digits : Width → Nat
  | .w8 => 2
  | .w16 => 4

/-- 10^(w/4), the modulus of decimal mode (R162). -/
def Width.decimalBase (w : Width) : Nat := 10 ^ w.digits

end Sys2Proof

namespace Sys2Proof.Machine

/-- The flags of the status register in the native-mode layout of R28. Bits 5 and 4 (`m`, `x`) are fixed at 1 in emulation
mode (R33, R34). -/
inductive Flag where
  | n | v | m | x | d | i | z | c
  deriving DecidableEq, Repr

/-- The bit of P that holds the flag (R28). -/
def Flag.bit : Flag → Nat
  | .n => 7
  | .v => 6
  | .m => 5
  | .x => 4
  | .d => 3
  | .i => 2
  | .z => 1
  | .c => 0

/-- A byte with the flag's bit alone set. -/
def Flag.mask : Flag → Byte
  | .n => 0x80#8
  | .v => 0x40#8
  | .m => 0x20#8
  | .x => 0x10#8
  | .d => 0x08#8
  | .i => 0x04#8
  | .z => 0x02#8
  | .c => 0x01#8

/-- P with one flag written, the other bits kept. -/
def setFlagIn (p : Byte) (f : Flag) (b : Bool) : Byte :=
  if b then p ||| f.mask else p &&& ~~~f.mask

/-- The flag's value in P. -/
def State.flag (s : State) (f : Flag) : Bool := s.p.getLsbD f.bit

/-- One flag of P written. -/
def State.setFlag (s : State) (f : Flag) (b : Bool) : State :=
  { s with p := setFlagIn s.p f b }

/-- `wA()`, the accumulator and memory width (10_state.md R37). -/
def State.wA (s : State) : Width :=
  if s.cfg.variant = .m65816 ∧ s.e = false ∧ s.flag .m = false then .w16 else .w8

/-- `wX()`, the index width (10_state.md R38). -/
def State.wX (s : State) : Width :=
  if s.cfg.variant = .m65816 ∧ s.e = false ∧ s.flag .x = false then .w16 else .w8

/-- `v[w-1:0]`, zero-extended to 16 bits (R11). Values of width 8 are carried in a Word whose high byte is 0. -/
def narrow (w : Width) (v : Word) : Word :=
  match w with
  | .w8 => v &&& 0x00FF#16
  | .w16 => v

/-- `msb_w(v)` (R11). -/
def msb (w : Width) (v : Word) : Bool :=
  match w with
  | .w8 => v.getLsbD 7
  | .w16 => v.getLsbD 15

/-- Bit w-2, which BIT copies to v (R181). -/
def nextMsb (w : Width) (v : Word) : Bool :=
  match w with
  | .w8 => v.getLsbD 6
  | .w16 => v.getLsbD 14

/-- `setNZ_w(v)` (R12) for a value of width w. -/
def State.setNZ (s : State) (w : Width) (v : Word) : State :=
  (s.setFlag .n (msb w v)).setFlag .z (narrow w v == 0#16)

/-- Low byte of a word. -/
def loByte (v : Word) : Byte := v.extractLsb' 0 8

/-- High byte of a word. -/
def hiByte (v : Word) : Byte := v.extractLsb' 8 8

/-- `hi:lo` (R10). -/
def word (hi lo : Byte) : Word := hi ++ lo

/-- A byte as a word with high byte 0. -/
def zext (b : Byte) : Word := word 0#8 b

/-- `zext_16` of a carry or borrow bit. -/
def bitVal (b : Bool) : Nat := if b then 1 else 0

/-- What ADC and SBC produce: the result at the width and the four flags they write. -/
structure AddOut where
  r : Word
  n : Bool
  v : Bool
  z : Bool
  c : Bool
  deriving DecidableEq, Repr

/-- ADC, binary (41_arithmetic.md R161), of operands of width w. -/
def adcBinary (w : Width) (a m : Word) (c : Bool) : AddOut :=
  let sum := a.toNat + m.toNat + bitVal c
  let r := BitVec.ofNat 16 (sum % 2 ^ w.bits)
  { r := r
    n := msb w r
    v := msb w ((a ^^^ r) &&& (m ^^^ r))
    z := r == 0#16
    c := decide (2 ^ w.bits ≤ sum) }

/-- SBC, binary (41_arithmetic.md R169): the exact difference is an integer, reduced mod 2^w. -/
def sbcBinary (w : Width) (a m : Word) (c : Bool) : AddOut :=
  let diff : Int := (a.toNat : Int) - m.toNat - (1 - bitVal c)
  let r := BitVec.ofInt 16 (diff % 2 ^ w.bits)
  { r := r
    n := msb w r
    v := msb w ((a ^^^ m) &&& (a ^^^ r))
    z := r == 0#16
    c := decide (0 ≤ diff) }

/-- Decimal digit k of a value, bits 4k+3 to 4k. -/
def digit (v : Word) (k : Nat) : Nat := v.toNat / 16 ^ k % 16

/-- Valid BCD: every digit of the width is at most 9 (R162). -/
def validBcd (w : Width) (v : Word) : Bool :=
  (List.range w.digits).all fun k => decide (digit v k ≤ 9)

/-- `dec(v)`, the decimal value (R162). -/
def dec (w : Width) (v : Word) : Nat :=
  ((List.range w.digits).map fun k => digit v k * 10 ^ k).sum

/-- `bcd(n)`, the BCD form of n (R162). -/
def bcd (w : Width) (n : Nat) : Word :=
  BitVec.ofNat 16 ((List.range w.digits).map fun k => n / 10 ^ k % 10 * 16 ^ k).sum

/-- The outcome of decimal ADC or SBC on valid BCD operands, from the decimal result and the carry: n and z follow the
result but on the 6502, v is a free value on every variant (R162, R170; log 14). -/
def decimalOut (variant : Variant) (t : Nat) (w : Width) (r : Word) (c : Bool) : AddOut :=
  { r := r
    n := if variant = .m6502 then Config.freeBit t .decimalN else msb w r
    v := Config.freeBit t .decimalV
    z := if variant = .m6502 then Config.freeBit t .decimalZ else r == 0#16
    c := c }

/-- The outcome of decimal ADC or SBC when an operand is not valid BCD: the result and all four flags are free values (R162,
R170; log 14). -/
def invalidBcdOut (t : Nat) (w : Width) : AddOut :=
  { r := narrow w (Config.freeWord t .decimalResult)
    n := Config.freeBit t .decimalN
    v := Config.freeBit t .decimalV
    z := Config.freeBit t .decimalZ
    c := Config.freeBit t .decimalC }

/-- ADC, decimal (41_arithmetic.md R162). -/
def adcDecimal (variant : Variant) (t : Nat) (w : Width) (a m : Word) (c : Bool) : AddOut :=
  if validBcd w a ∧ validBcd w m then
    let sum := dec w a + dec w m + bitVal c
    decimalOut variant t w (bcd w (sum % w.decimalBase)) (decide (w.decimalBase ≤ sum))
  else invalidBcdOut t w

/-- SBC, decimal (41_arithmetic.md R170). -/
def sbcDecimal (variant : Variant) (t : Nat) (w : Width) (a m : Word) (c : Bool) : AddOut :=
  if validBcd w a ∧ validBcd w m then
    let diff : Int := (dec w a : Int) - dec w m - (1 - bitVal c)
    decimalOut variant t w (bcd w (diff % w.decimalBase).toNat) (decide (0 ≤ diff))
  else invalidBcdOut t w

/-- ADC of operands of width w in the mode of P.d (R161, R162). -/
def State.adcOut (s : State) (w : Width) (a m : Word) : AddOut :=
  if s.flag .d then adcDecimal s.cfg.variant s.time w a m (s.flag .c)
  else adcBinary w a m (s.flag .c)

/-- SBC of operands of width w in the mode of P.d (R169, R170). -/
def State.sbcOut (s : State) (w : Width) (a m : Word) : AddOut :=
  if s.flag .d then sbcDecimal s.cfg.variant s.time w a m (s.flag .c)
  else sbcBinary w a m (s.flag .c)

/-- The four flags of an addition or subtraction written (R161, R169). -/
def State.setAddFlags (s : State) (o : AddOut) : State :=
  (((s.setFlag .n o.n).setFlag .v o.v).setFlag .z o.z).setFlag .c o.c

/-- The flags of a comparison of `reg` with `m` at width w (R209, R210): n and z of the difference, c when no borrow. -/
def State.setCompare (s : State) (w : Width) (reg m : Word) : State :=
  (s.setNZ w (narrow w (reg - m))).setFlag .c (decide (m.toNat ≤ reg.toNat))

/-- What a shift or rotate produces: the result and the bit shifted out (R191). -/
structure ShiftOut where
  r : Word
  c : Bool
  deriving DecidableEq, Repr

/-- ASL (R185). -/
def aslOut (w : Width) (v : Word) : ShiftOut :=
  { r := narrow w (v <<< 1), c := msb w v }

/-- LSR (R186). -/
def lsrOut (w : Width) (v : Word) : ShiftOut :=
  { r := narrow w v >>> 1, c := v.getLsbD 0 }

/-- ROL with the carry before the instruction (R187). -/
def rolOut (w : Width) (v : Word) (c : Bool) : ShiftOut :=
  { r := narrow w ((v <<< 1) ||| (if c then 1#16 else 0#16)), c := msb w v }

/-- The word whose only set bit is bit w-1. -/
def topBit (w : Width) : Word :=
  match w with
  | .w8 => 0x0080#16
  | .w16 => 0x8000#16

/-- ROR with the carry before the instruction (R188). -/
def rorOut (w : Width) (v : Word) (c : Bool) : ShiftOut :=
  { r := (narrow w v >>> 1) ||| (if c then topBit w else 0#16), c := v.getLsbD 0 }

end Sys2Proof.Machine
end

