-- ==== Sys2Proof/Machine/Ops.lean ====
section
/-! DEFINITION. The operations every instruction is written with: memory (20_memory.md), register access (10_state.md R40), the
stack (40_addressing_modes.md R150 to R154), the interrupt sequence, its return and reset (60_exceptions.md R323,
46_interrupts.md R302, 70_reset_and_hazards.md R360), and the sampling of the inputs (R321 to R334). -/

namespace Sys2Proof.Machine

/-! ## Memory -/

/-- What an address that memory does not list reads as (DESIGN CHOICE, log 4). -/
def Memory.unlisted : Byte := 0x00#8

/-- The byte memory holds at an address. -/
def Memory.read : Memory → Nat → Byte
  | [], _ => Memory.unlisted
  | (k, b) :: rest, a => if k = a then b else Memory.read rest a

/-- One byte written, the canonical form kept. -/
def Memory.write : Memory → Nat → Byte → Memory
  | [], a, v => if v = Memory.unlisted then [] else [(a, v)]
  | (k, b) :: rest, a, v =>
    if a < k then (if v = Memory.unlisted then (k, b) :: rest else (a, v) :: (k, b) :: rest)
    else if a = k then (if v = Memory.unlisted then rest else (a, v) :: rest)
    else (k, b) :: Memory.write rest a v

/-- The canonical form from address `lo` on: addresses rise strictly, lie in the 24-bit space, and list no byte equal to what
an unlisted address reads as. -/
def Memory.wfFrom : Nat → Memory → Bool
  | _, [] => true
  | lo, (k, b) :: rest =>
    decide (lo ≤ k) && decide (k < 2 ^ 24) && (b != Memory.unlisted) && Memory.wfFrom (k + 1) rest

/-- The canonical form of a memory. -/
def Memory.wf (m : Memory) : Bool := Memory.wfFrom 0 m

/-- What the platform has at an address (R72): the first region that holds it, RAM where none does (log 3). -/
def kindAt (cfg : Config) (a : Addr) : RegionKind :=
  match cfg.regions.find? fun r => decide (r.base ≤ a.toNat) && decide (a.toNat < r.base + r.size) with
  | some r => r.kind
  | none => .ram

/-- `MemRead(a, 1)` (R64). RAM and ROM deliver the byte held; a device or nothing delivers a free value (log 10). -/
def State.read (s : State) (k : AccessKind) (a : Addr) : Byte :=
  match kindAt s.cfg a with
  | .ram => Memory.read s.mem a.toNat
  | .rom => Memory.read s.mem a.toNat
  | .device _ => Config.freeByte s.time k a.toNat
  | .unpopulated => Config.freeByte s.time k a.toNat

/-- `MemWrite(a, 1, v)` (R65): only RAM changes. What a device does with the byte is outside the core (log 11). -/
def State.write (s : State) (a : Addr) (v : Byte) : State :=
  { s with mem := if kindAt s.cfg a = .ram then Memory.write s.mem a.toNat v else s.mem }

/-- The address is a device that extra bus cycles may disturb (R71). -/
def State.isSensitiveDevice (s : State) (a : Addr) : Bool :=
  decide (kindAt s.cfg a = .device false)

/-- `bank:offset` as a 24-bit address (R9, R61). -/
def bankAddr (bank : Byte) (off : Word) : Addr := bank ++ off

/-- `b0(o)`, an offset in bank 0 (R121). -/
def b0 (off : Word) : Addr := bankAddr 0x00#8 off

/-- `lin(a)` (R121); on the 6502 and 65C02 every address is reduced mod 2^16 (R122). -/
def State.lin (s : State) (a : Addr) : Addr :=
  if s.cfg.variant = .m65816 then a else b0 (a.extractLsb' 0 16)

/-! ## Registers (R40) -/

/-- `Acc(w)`. -/
def State.acc (s : State) (w : Width) : Word := narrow w s.c

/-- A word with its bits below the width replaced by those of `v`. -/
def mergeLow (w : Width) (old v : Word) : Word :=
  match w with
  | .w8 => word (hiByte old) (loByte v)
  | .w16 => v

/-- `Acc(w) <- v`; at 8 bits B is kept. -/
def State.setAcc (s : State) (w : Width) (v : Word) : State :=
  { s with c := mergeLow w s.c v }

/-- The two index registers. -/
inductive IndexReg where
  | x
  | y
  deriving DecidableEq, Repr

/-- `Idx(r, w)`. -/
def State.idx (s : State) (r : IndexReg) (w : Width) : Word :=
  match r with
  | .x => narrow w s.x
  | .y => narrow w s.y

/-- `Idx(r, w) <- v`; at 8 bits the high byte becomes 0 (invariant I4 of R39). -/
def State.setIdx (s : State) (r : IndexReg) (w : Width) (v : Word) : State :=
  { s with
    x := if r = .x then narrow w v else s.x
    y := if r = .y then narrow w v else s.y }

/-- The value SetS gives S (R40): page 1 in emulation mode (invariant I3). -/
def stackValue (e : Bool) (v : Word) : Word :=
  if e then word 0x01#8 (loByte v) else v

/-- `SetS(v)`. -/
def State.setS (s : State) (v : Word) : State := { s with s := stackValue s.e v }

/-- The value SetP gives P (R40): bits 5 and 4 read 1 in emulation mode (invariant I2). -/
def statusValue (e : Bool) (v : Byte) : Byte := if e then v ||| 0x30#8 else v

/-- X and Y with their high bytes cleared when the index registers are 8 bits wide (invariant I4 of R39). -/
def State.clipIndex (s : State) : State :=
  { s with x := narrow s.wX s.x, y := narrow s.wX s.y }

/-- `SetP(v)`. -/
def State.setP (s : State) (v : Byte) : State :=
  { s with p := statusValue s.e v }.clipIndex

/-- PC moved past an instruction of n bytes, inside its bank (R13, R27). -/
def State.advance (s : State) (n : Nat) : State := { s with pc := s.pc + BitVec.ofNat 16 n }

/-- A transfer of control inside the program bank (`pc <-` of R12). -/
def State.jump (s : State) (target : Word) : State := { s with pc := target }

/-- A transfer of control to another bank (`pbr:pc <-` of R12). -/
def State.jumpLong (s : State) (bank : Byte) (target : Word) : State :=
  { s with pbr := bank, pc := target }

/-! ## The stack (R150 to R154) -/

/-- `Push8` (R150). -/
def State.push8 (s : State) (v : Byte) : State := (s.write (b0 s.s) v).setS (s.s - 1#16)

/-- `Push16`, high byte first (R152). -/
def State.push16 (s : State) (v : Word) : State := (s.push8 (hiByte v)).push8 (loByte v)

/-- S after a pull (R151). -/
def State.pulled (s : State) : State := s.setS (s.s + 1#16)

/-- `Pull8` (R151). -/
def State.pull8 (s : State) : Byte × State := (s.pulled.read .stack (b0 s.pulled.s), s.pulled)

/-- `Pull16`, low byte first (R153). -/
def State.pull16 (s : State) : Word × State :=
  (word s.pull8.2.pull8.1 s.pull8.1, s.pull8.2.pull8.2)

/-- A push of a value of width w (R280, R285). -/
def State.pushW (s : State) (w : Width) (v : Word) : State :=
  match w with
  | .w8 => s.push8 (loByte v)
  | .w16 => s.push16 v

/-- A pull of a value of width w (R271, R275). -/
def State.pullW (s : State) (w : Width) : Word × State :=
  match w with
  | .w8 => (zext s.pull8.1, s.pull8.2)
  | .w16 => s.pull16

/-- k pushes would leave page 1 in emulation mode (R154). -/
def State.pushWraps (s : State) (k : Nat) : Bool := s.e && decide ((loByte s.s).toNat + 1 < k)

/-- k pulls would leave page 1 in emulation mode (R154). -/
def State.pullWraps (s : State) (k : Nat) : Bool := s.e && decide (0xFF < (loByte s.s).toNat + k)

/-! ## Interrupts and reset -/

/-- The events that run the interrupt sequence (R323). -/
inductive Cause where
  | brk
  | cop
  | irq
  | nmi
  deriving DecidableEq, Repr

/-- The vector's address in bank 0 (R325). -/
def Cause.vector : Cause → Bool → Word
  | .brk, true => 0xFFFE#16
  | .brk, false => 0xFFE6#16
  | .cop, true => 0xFFF4#16
  | .cop, false => 0xFFE4#16
  | .irq, true => 0xFFFE#16
  | .irq, false => 0xFFEE#16
  | .nmi, true => 0xFFFA#16
  | .nmi, false => 0xFFEA#16

/-- BRK and COP are software interrupts (R320). -/
def Cause.isSoftware : Cause → Bool
  | .brk => true
  | .cop => true
  | .irq => false
  | .nmi => false

/-- The byte of P that the interrupt sequence pushes (R323): in emulation mode bit 5 is 1 and bit 4, the b flag, tells
software from hardware. -/
def State.stackedP (s : State) (k : Cause) : Byte :=
  if s.e then (if k.isSoftware then s.p ||| 0x30#8 else (s.p ||| 0x20#8) &&& 0xEF#8) else s.p

/-- P in the handler (R323): i set, d cleared but on the 6502. -/
def handlerP (variant : Variant) (p : Byte) : Byte :=
  if variant = .m6502 then setFlagIn p .i true else setFlagIn (setFlagIn p .i true) .d false

/-- The 16-bit little-endian word of a vector in bank 0 (R325). -/
def State.readVector (s : State) (v : Word) : Word :=
  word (s.read .vector (b0 (v + 1#16))) (s.read .vector (b0 v))

/-- The frame the interrupt sequence pushes (R323): PBR in native mode, the return address, P. -/
def State.pushFrame (s : State) (k : Cause) (ret : Word) : State :=
  ((if s.e then s else s.push8 s.pbr).push16 ret).push8 (s.stackedP k)

/-- `raise K(ret)`, the interrupt sequence (R323). -/
def State.enterInterrupt (s : State) (k : Cause) (ret : Word) : State :=
  let t := s.pushFrame k ret
  { t with
    p := handlerP t.cfg.variant t.p
    pbr := 0x00#8
    pc := t.readVector (k.vector t.e) }

/-- The return from an interrupt (R302, R332): P, then PC, then PBR in native mode. -/
def State.returnFromInterrupt (s : State) : State :=
  let t := (s.pull8.2.setP s.pull8.1)
  let u := t.pull16.2.jump t.pull16.1
  if u.e then u else { u.pull8.2 with pbr := u.pull8.1 }

/-- P after the reset sequence (R360): bits 5 and 4 set, i set, d cleared but on the 6502, the rest free values. -/
def State.resetP (s : State) : Byte :=
  let fixed := if s.cfg.variant = .m65816 then s.p ||| 0x30#8 else s.p
  let drawn :=
    setFlagIn (setFlagIn (setFlagIn (setFlagIn fixed .n (Config.freeBit s.time .resetN)) .v
      (Config.freeBit s.time .resetV)) .z (Config.freeBit s.time .resetZ)) .c (Config.freeBit s.time .resetC0)
  setFlagIn (setFlagIn drawn .i true) .d
    (if s.cfg.variant = .m6502 then Config.freeBit s.time .resetD else false)

/-- An index register after the reset sequence (R360): the low byte is a free value. -/
def State.resetIndex (s : State) (old : Word) (site : DrawSite) : Word :=
  word (if s.cfg.variant = .m65816 then 0x00#8 else hiByte old) (loByte (Config.freeWord s.time site))

/-- The reset sequence (70_reset_and_hazards.md R360). -/
def State.resetSequence (s : State) : State :=
  { s with
    run := .running
    nmiPending := false
    e := if s.cfg.variant = .m65816 then true else s.e
    c := Config.freeWord s.time .resetC
    x := s.resetIndex s.x .resetX
    y := s.resetIndex s.y .resetY
    d := if s.cfg.variant = .m65816 then 0x0000#16 else s.d
    dbr := if s.cfg.variant = .m65816 then 0x00#8 else s.dbr
    pbr := if s.cfg.variant = .m65816 then 0x00#8 else s.pbr
    s := word 0x01#8 (loByte (Config.freeWord s.time .resetS))
    p := s.resetP
    pc := s.readVector 0xFFFC#16 }

/-! ## Sampling and acceptance -/

/-- The input levels of this step (R321): the next entry of the list, the levels as they stand when it is empty (log 8). -/
def State.levels (s : State) : Inputs :=
  match s.inputs with
  | [] => { irq := s.irqLine, nmi := s.nmiLine, reset := s.resetLine }
  | i :: _ => i

/-- The inputs sampled at the start of a step (R321): the lines follow their levels, an inactive-to-active edge of NMI sets
the latch unless the processor is stopped (R315). -/
def State.sampleInputs (s : State) : State :=
  { s with
    time := s.time + 1
    inputs := s.inputs.tail
    irqLine := s.levels.irq
    nmiLine := s.levels.nmi
    resetLine := s.levels.reset
    nmiPending := s.nmiPending || (s.levels.nmi && !s.nmiLine && decide (s.run ≠ .stopped)) }

/-- What happens at an acceptance point. -/
inductive Boundary where
  /-- the reset sequence (R360) -/
  | reset
  /-- the NMI sequence (R326) -/
  | nmi
  /-- the IRQ sequence (R324) -/
  | irq
  /-- the instruction at PC -/
  | instr
  /-- a stutter step (R303, R315) -/
  | stay
  deriving DecidableEq, Repr

/-- The acceptance test: priority reset, NMI, IRQ (R331); the wake-up test while waiting (R303); only reset while stopped
(R334). -/
def State.boundary (s : State) : Boundary :=
  if s.resetLine then .reset
  else
    match s.run with
    | .stopped => .stay
    | .waiting =>
      if s.nmiPending then .nmi
      else if s.irqLine then (if s.flag .i then .instr else .irq)
      else .stay
    | .running =>
      if s.nmiPending then .nmi
      else if s.irqLine ∧ s.flag .i = false then .irq
      else .instr

/-- The NMI sequence: the latch is cleared, a wait ends (R303, R326). -/
def State.takeNmi (s : State) : State :=
  { s with nmiPending := false, run := .running }.enterInterrupt .nmi s.pc

/-- The IRQ sequence; a wait ends (R303, R324). -/
def State.takeIrq (s : State) : State :=
  { s with run := .running }.enterInterrupt .irq s.pc

/-- A wait ends without a handler (R303); a running processor stays as it is. -/
def State.wake (s : State) : State := { s with run := .running }

end Sys2Proof.Machine
end

