-- ==== Sys2Proof/Machine/Operands.lean ====
section
/-! DEFINITION. Operand locations and data access (40_addressing_modes.md R120 to R122), every addressing mode (R123 to R148)
and the direct page functions (R149). -/

namespace Sys2Proof.Machine

/-- `loc` of R121. -/
inductive Loc where
  /-- an immediate constant -/
  | imm (v : Word)
  /-- the accumulator -/
  | acc
  /-- memory: the addresses of the low-order and of the high-order byte -/
  | mem (a0 a1 : Addr)
  deriving DecidableEq, Repr

/-- `MemLin(a)` (R121, R122). -/
def State.memLin (s : State) (a : Addr) : Loc := .mem (s.lin a) (s.lin (a + 1#24))

/-- `MemB0(o)` (R121). -/
def memB0 (o : Word) : Loc := .mem (b0 o) (b0 (o + 1#16))

/-- `ReadData(loc, w)` (R121); a value of width 8 has high byte 0. -/
def State.readData (s : State) (l : Loc) (w : Width) : Word :=
  match l with
  | .imm v => narrow w v
  | .acc => s.acc w
  | .mem a0 a1 =>
    match w with
    | .w8 => zext (s.read .data a0)
    | .w16 => word (s.read .data a1) (s.read .data a0)

/-- `WriteData(loc, w, v)` (R121), low byte first. No instruction writes an immediate. -/
def State.writeData (s : State) (l : Loc) (w : Width) (v : Word) : State :=
  match l with
  | .imm _ => s
  | .acc => s.setAcc w v
  | .mem a0 a1 =>
    match w with
    | .w8 => s.write a0 (loByte v)
    | .w16 => (s.write a0 (loByte v)).write a1 (hiByte v)

/-- An access to this location at this width meets a device that extra bus cycles may disturb (R71). -/
def State.meetsSensitiveDevice (s : State) (l : Loc) (w : Width) : Bool :=
  match l with
  | .imm _ => false
  | .acc => false
  | .mem a0 a1 =>
    match w with
    | .w8 => s.isSensitiveDevice a0
    | .w16 => s.isSensitiveDevice a0 || s.isSensitiveDevice a1

/-- `DPw(off)` (R149): page wrap in emulation mode with DL = 0. -/
def State.dpw (s : State) (off : Word) : Addr :=
  if s.e = true ∧ loByte s.d = 0x00#8 then b0 (word (hiByte s.d) (loByte off)) else b0 (s.d + off)

/-- `DPn(off)` (R149): never a page wrap. -/
def State.dpn (s : State) (off : Word) : Addr := b0 (s.d + off)

/-- An index register at the index width, as the addressing modes add it (R94, R137). -/
def State.index (s : State) (r : IndexReg) : Word := s.idx r s.wX

/-- An unsigned 16-bit index as an address increment (R137). -/
def asAddr (v : Word) : Addr := bankAddr 0x00#8 v

/-- The 16-bit pointer in the direct page at `off`, with DPw (R132, R134, R135). -/
def State.dpPointer (s : State) (off : Word) : Word :=
  word (s.read .pointer (s.dpw (off + 1#16))) (s.read .pointer (s.dpw off))

/-- The 24-bit pointer in the direct page at `off`, with DPn (R133, R136). -/
def State.dpPointerLong (s : State) (off : Word) : Addr :=
  bankAddr (s.read .pointer (s.dpn (off + 2#16)))
    (word (s.read .pointer (s.dpn (off + 1#16))) (s.read .pointer (s.dpn off)))

/-- The 16-bit word in the direct page at `off`, with DPn (PEI, R148). -/
def State.dpWord (s : State) (off : Word) : Word :=
  word (s.read .pointer (s.dpn (off + 1#16))) (s.read .pointer (s.dpn off))

/-- The 16-bit pointer on the stack at S + off (R141). -/
def State.srPointer (s : State) (off : Word) : Word :=
  word (s.read .pointer (b0 (s.s + off + 1#16))) (s.read .pointer (b0 (s.s + off)))

/-- The operand forms of the data instructions (R101), with their operand bytes. -/
inductive Operand where
  /-- `#const` at the accumulator width -/
  | immM (v : Word)
  /-- `#const` at the index width -/
  | immX (v : Word)
  /-- `A` -/
  | acc
  /-- `addr` -/
  | abs (a : Word)
  /-- `long` -/
  | long (a : Addr)
  /-- `dp` -/
  | dp (o : Byte)
  /-- `dp,X` -/
  | dpX (o : Byte)
  /-- `dp,Y` -/
  | dpY (o : Byte)
  /-- `(dp)` -/
  | dpInd (o : Byte)
  /-- `[dp]` -/
  | dpIndLong (o : Byte)
  /-- `(dp,X)` -/
  | dpXInd (o : Byte)
  /-- `(dp),Y` -/
  | dpIndY (o : Byte)
  /-- `[dp],Y` -/
  | dpIndLongY (o : Byte)
  /-- `addr,X` -/
  | absX (a : Word)
  /-- `addr,Y` -/
  | absY (a : Word)
  /-- `long,X` -/
  | longX (a : Addr)
  /-- `sr,S` -/
  | sr (o : Byte)
  /-- `(sr,S),Y` -/
  | srIndY (o : Byte)
  deriving DecidableEq, Repr

/-- A direct page location at `off` (R129 to R131). -/
def State.dpLoc (s : State) (off : Word) : Loc := .mem (s.dpw off) (s.dpw (off + 1#16))

/-- The operand location of each mode (R124 to R141). -/
def Operand.loc (o : Operand) (s : State) : Loc :=
  match o with
  | .immM v => .imm (narrow s.wA v)
  | .immX v => .imm (narrow s.wX v)
  | .acc => .acc
  | .abs a => s.memLin (bankAddr s.dbr a)
  | .long a => s.memLin a
  | .dp o => s.dpLoc (zext o)
  | .dpX o => s.dpLoc (zext o + s.index .x)
  | .dpY o => s.dpLoc (zext o + s.index .y)
  | .dpInd o => s.memLin (bankAddr s.dbr (s.dpPointer (zext o)))
  | .dpIndLong o => s.memLin (s.dpPointerLong (zext o))
  | .dpXInd o => s.memLin (bankAddr s.dbr (s.dpPointer (zext o + s.index .x)))
  | .dpIndY o => s.memLin (bankAddr s.dbr (s.dpPointer (zext o)) + asAddr (s.index .y))
  | .dpIndLongY o => s.memLin (s.dpPointerLong (zext o) + asAddr (s.index .y))
  | .absX a => s.memLin (bankAddr s.dbr a + asAddr (s.index .x))
  | .absY a => s.memLin (bankAddr s.dbr a + asAddr (s.index .y))
  | .longX a => s.memLin (a + asAddr (s.index .x))
  | .sr o => memB0 (s.s + zext o)
  | .srIndY o => s.memLin (bankAddr s.dbr (s.srPointer (zext o)) + asAddr (s.index .y))

/-- The access of width `w` whose address the mode forms with an index register, with its width (R243; U13 of
93_implementation_defined.md, log 11): the operand itself, but for `(dp,X)` the pointer; none where nothing is indexed. -/
def Operand.indexedAccess (o : Operand) (s : State) (w : Width) : Option (Loc × Width) :=
  match o with
  | .immM _ => none
  | .immX _ => none
  | .acc => none
  | .abs _ => none
  | .long _ => none
  | .dp _ => none
  | .dpX _ => some (o.loc s, w)
  | .dpY _ => some (o.loc s, w)
  | .dpInd _ => none
  | .dpIndLong _ => none
  | .dpXInd k => some (s.dpLoc (zext k + s.index .x), .w16)
  | .dpIndY _ => some (o.loc s, w)
  | .dpIndLongY _ => some (o.loc s, w)
  | .absX _ => some (o.loc s, w)
  | .absY _ => some (o.loc s, w)
  | .longX _ => some (o.loc s, w)
  | .sr _ => none
  | .srIndY _ => some (o.loc s, w)

/-- The bytes of an immediate instruction at a width (R95). -/
def immLen : Width → Nat
  | .w8 => 2
  | .w16 => 3

/-- The length in bytes of an instruction with this operand (R91, R95). -/
def Operand.len (o : Operand) (s : State) : Nat :=
  match o with
  | .immM _ => immLen s.wA
  | .immX _ => immLen s.wX
  | .acc => 1
  | .abs _ => 3
  | .long _ => 4
  | .dp _ => 2
  | .dpX _ => 2
  | .dpY _ => 2
  | .dpInd _ => 2
  | .dpIndLong _ => 2
  | .dpXInd _ => 2
  | .dpIndY _ => 2
  | .dpIndLongY _ => 2
  | .absX _ => 3
  | .absY _ => 3
  | .longX _ => 4
  | .sr _ => 2
  | .srIndY _ => 2

/-! ## Targets of control transfers -/

/-- The target of an 8-bit displacement (R142). -/
def State.rel8Target (s : State) (disp : Byte) : Word := s.pc + 2#16 + disp.signExtend 16

/-- The target of a 16-bit displacement (R143), also the value PER pushes (R148). -/
def State.rel16Target (s : State) (disp : Word) : Word := s.pc + 3#16 + disp

/-- The offset of the high byte of the pointer of JMP (addr): the 6502 does not carry out of the page (R144). -/
def jmpIndHigh (variant : Variant) (a : Word) : Word :=
  if variant = .m6502 then word (hiByte a) (loByte (a + 1#16)) else a + 1#16

/-- The target of JMP (addr) (R144). -/
def State.absIndTarget (s : State) (a : Word) : Word :=
  word (s.read .pointer (b0 (jmpIndHigh s.cfg.variant a))) (s.read .pointer (b0 a))

/-- Where the pointer of JMP (addr,X) and JSR (addr,X) lies (R145). -/
def State.absXIndLoc (s : State) (a : Word) : Loc :=
  let p := a + s.index .x
  .mem (bankAddr s.pbr p) (bankAddr s.pbr (p + 1#16))

/-- The target of JMP (addr,X) and JSR (addr,X): the pointer lies in the program bank (R145). -/
def State.absXIndTarget (s : State) (a : Word) : Word :=
  let p := a + s.index .x
  word (s.read .pointer (bankAddr s.pbr (p + 1#16))) (s.read .pointer (bankAddr s.pbr p))

/-- The bank of the target of JMP [addr] (R146). -/
def State.absIndLongBank (s : State) (a : Word) : Byte := s.read .pointer (b0 (a + 2#16))

/-- The offset of the target of JMP [addr] (R146). -/
def State.absIndLongTarget (s : State) (a : Word) : Word :=
  word (s.read .pointer (b0 (a + 1#16))) (s.read .pointer (b0 a))

/-! ## The shapes of access -/

/-- A read-modify-write instruction (R71): one ReadData, one WriteData at the same location at width `wA()`. `res` is the value
written and `flags` the flags written, both from the value read. -/
def rmw (o : Operand) (res : Width → Word → Word) (flags : State → Width → Word → State) (s : State) : Out :=
  if s.meetsSensitiveDevice (o.loc s) s.wA then .refused .deviceRMW
  else
    .next
      ((flags (s.writeData (o.loc s) s.wA (res s.wA (s.readData (o.loc s) s.wA))) s.wA
        (s.readData (o.loc s) s.wA)).advance (o.len s))

/-- An instruction that reads or writes its operand once, at width `w`, and leaves `t`: refused before any effect when an
indexed access of it meets a device that extra bus cycles may disturb (U13 of 93_implementation_defined.md). -/
def accessOnce (o : Operand) (w : Width) (s t : State) : Out :=
  match o.indexedAccess s w with
  | some (l, v) => if s.meetsSensitiveDevice l v then .refused .deviceRMW else .next t
  | none => .next t

/-- A store of a value of width w (R243 to R246). -/
def store (o : Operand) (w : Width) (v : Word) (s : State) : Out :=
  accessOnce o w s ((s.writeData (o.loc s) w v).advance (o.len s))

end Sys2Proof.Machine
end

