-- ==== Sys2Proof/Machine/Arithmetic.lean ====
section
/-! DEFINITION. ADC, SBC, INC, INX, INY, DEC, DEX, DEY (41_arithmetic.md). -/

namespace Sys2Proof.Machine

/-- The accumulator, n, v, z and c from an addition or subtraction (R161, R169). -/
def addResult (o : Operand) (r : AddOut) (s : State) : Out :=
  accessOnce o s.wA s (((s.setAcc s.wA r.r).setAddFlags r).advance (o.len s))

/-- ADC (R161, R162): accumulator plus operand plus carry. -/
def adc (o : Operand) (s : State) : Out :=
  addResult o (s.adcOut s.wA (s.acc s.wA) (s.readData (o.loc s) s.wA)) s

/-- SBC (R169, R170): accumulator minus operand minus borrow. -/
def sbc (o : Operand) (s : State) : Out :=
  addResult o (s.sbcOut s.wA (s.acc s.wA) (s.readData (o.loc s) s.wA)) s

/-- V + 1 mod 2^w (R166). -/
def incValue (w : Width) (v : Word) : Word := narrow w (v + 1#16)

/-- V - 1 mod 2^w (R163). -/
def decValue (w : Width) (v : Word) : Word := narrow w (v - 1#16)

/-- INC (R166): n and z alone are written. -/
def inc (o : Operand) (s : State) : Out := rmw o incValue (fun t w v => t.setNZ w (incValue w v)) s

/-- DEC (R163): n and z alone are written. -/
def dec1 (o : Operand) (s : State) : Out := rmw o decValue (fun t w v => t.setNZ w (decValue w v)) s

/-- INX, INY, DEX, DEY (R164 to R168): an index register stepped at the index width. -/
def stepIndex (r : IndexReg) (f : Width → Word → Word) (s : State) : Out :=
  .next (((s.setIdx r s.wX (f s.wX (s.idx r s.wX))).setNZ s.wX (f s.wX (s.idx r s.wX))).advance 1)

/-- `ADC (dp,X)`, opcode 61 (R161, R134). -/
def execAdcDpXInd (o : Byte) (s : State) : Out := adc (.dpXInd o) s

/-- `ADC sr,S`, opcode 63 (R161, R140). -/
def execAdcSr (o : Byte) (s : State) : Out := adc (.sr o) s

/-- `ADC dp`, opcode 65 (R161, R129). -/
def execAdcDp (o : Byte) (s : State) : Out := adc (.dp o) s

/-- `ADC [dp]`, opcode 67 (R161, R133). -/
def execAdcDpIndLong (o : Byte) (s : State) : Out := adc (.dpIndLong o) s

/-- `ADC #const`, opcode 69 (R161, R125). -/
def execAdcImm (v : Word) (s : State) : Out := adc (.immM v) s

/-- `ADC addr`, opcode 6D (R161, R126). -/
def execAdcAbs (a : Word) (s : State) : Out := adc (.abs a) s

/-- `ADC long`, opcode 6F (R161, R128). -/
def execAdcLong (a : Addr) (s : State) : Out := adc (.long a) s

/-- `ADC (dp),Y`, opcode 71 (R161, R135). -/
def execAdcDpIndY (o : Byte) (s : State) : Out := adc (.dpIndY o) s

/-- `ADC (dp)`, opcode 72 (R161, R132). -/
def execAdcDpInd (o : Byte) (s : State) : Out := adc (.dpInd o) s

/-- `ADC (sr,S),Y`, opcode 73 (R161, R141). -/
def execAdcSrIndY (o : Byte) (s : State) : Out := adc (.srIndY o) s

/-- `ADC dp,X`, opcode 75 (R161, R130). -/
def execAdcDpX (o : Byte) (s : State) : Out := adc (.dpX o) s

/-- `ADC [dp],Y`, opcode 77 (R161, R136). -/
def execAdcDpIndLongY (o : Byte) (s : State) : Out := adc (.dpIndLongY o) s

/-- `ADC addr,Y`, opcode 79 (R161, R138). -/
def execAdcAbsY (a : Word) (s : State) : Out := adc (.absY a) s

/-- `ADC addr,X`, opcode 7D (R161, R137). -/
def execAdcAbsX (a : Word) (s : State) : Out := adc (.absX a) s

/-- `ADC long,X`, opcode 7F (R161, R139). -/
def execAdcLongX (a : Addr) (s : State) : Out := adc (.longX a) s

/-- `SBC (dp,X)`, opcode E1 (R169, R134). -/
def execSbcDpXInd (o : Byte) (s : State) : Out := sbc (.dpXInd o) s

/-- `SBC sr,S`, opcode E3 (R169, R140). -/
def execSbcSr (o : Byte) (s : State) : Out := sbc (.sr o) s

/-- `SBC dp`, opcode E5 (R169, R129). -/
def execSbcDp (o : Byte) (s : State) : Out := sbc (.dp o) s

/-- `SBC [dp]`, opcode E7 (R169, R133). -/
def execSbcDpIndLong (o : Byte) (s : State) : Out := sbc (.dpIndLong o) s

/-- `SBC #const`, opcode E9 (R169, R125). -/
def execSbcImm (v : Word) (s : State) : Out := sbc (.immM v) s

/-- `SBC addr`, opcode ED (R169, R126). -/
def execSbcAbs (a : Word) (s : State) : Out := sbc (.abs a) s

/-- `SBC long`, opcode EF (R169, R128). -/
def execSbcLong (a : Addr) (s : State) : Out := sbc (.long a) s

/-- `SBC (dp),Y`, opcode F1 (R169, R135). -/
def execSbcDpIndY (o : Byte) (s : State) : Out := sbc (.dpIndY o) s

/-- `SBC (dp)`, opcode F2 (R169, R132). -/
def execSbcDpInd (o : Byte) (s : State) : Out := sbc (.dpInd o) s

/-- `SBC (sr,S),Y`, opcode F3 (R169, R141). -/
def execSbcSrIndY (o : Byte) (s : State) : Out := sbc (.srIndY o) s

/-- `SBC dp,X`, opcode F5 (R169, R130). -/
def execSbcDpX (o : Byte) (s : State) : Out := sbc (.dpX o) s

/-- `SBC [dp],Y`, opcode F7 (R169, R136). -/
def execSbcDpIndLongY (o : Byte) (s : State) : Out := sbc (.dpIndLongY o) s

/-- `SBC addr,Y`, opcode F9 (R169, R138). -/
def execSbcAbsY (a : Word) (s : State) : Out := sbc (.absY a) s

/-- `SBC addr,X`, opcode FD (R169, R137). -/
def execSbcAbsX (a : Word) (s : State) : Out := sbc (.absX a) s

/-- `SBC long,X`, opcode FF (R169, R139). -/
def execSbcLongX (a : Addr) (s : State) : Out := sbc (.longX a) s

/-- `INC A`, opcode 1A (R166, R124). -/
def execIncA (s : State) : Out := inc .acc s

/-- `INC dp`, opcode E6 (R166, R129). -/
def execIncDp (o : Byte) (s : State) : Out := inc (.dp o) s

/-- `INC addr`, opcode EE (R166, R126). -/
def execIncAbs (a : Word) (s : State) : Out := inc (.abs a) s

/-- `INC dp,X`, opcode F6 (R166, R130). -/
def execIncDpX (o : Byte) (s : State) : Out := inc (.dpX o) s

/-- `INC addr,X`, opcode FE (R166, R137). -/
def execIncAbsX (a : Word) (s : State) : Out := inc (.absX a) s

/-- `DEC A`, opcode 3A (R163, R124). -/
def execDecA (s : State) : Out := dec1 .acc s

/-- `DEC dp`, opcode C6 (R163, R129). -/
def execDecDp (o : Byte) (s : State) : Out := dec1 (.dp o) s

/-- `DEC addr`, opcode CE (R163, R126). -/
def execDecAbs (a : Word) (s : State) : Out := dec1 (.abs a) s

/-- `DEC dp,X`, opcode D6 (R163, R130). -/
def execDecDpX (o : Byte) (s : State) : Out := dec1 (.dpX o) s

/-- `DEC addr,X`, opcode DE (R163, R137). -/
def execDecAbsX (a : Word) (s : State) : Out := dec1 (.absX a) s

/-- `INX`, opcode E8 (R167, R123). -/
def execInx (s : State) : Out := stepIndex .x incValue s

/-- `INY`, opcode C8 (R168, R123). -/
def execIny (s : State) : Out := stepIndex .y incValue s

/-- `DEX`, opcode CA (R164, R123). -/
def execDex (s : State) : Out := stepIndex .x decValue s

/-- `DEY`, opcode 88 (R165, R123). -/
def execDey (s : State) : Out := stepIndex .y decValue s

end Sys2Proof.Machine
end

