-- ==== Sys2Proof/Machine/Binary.lean ====
section
/-! DEFINITION. AND, EOR, ORA, BIT, ASL, LSR, ROL, ROR, TRB, TSB (42_binary.md). -/

namespace Sys2Proof.Machine

/-- AND, EOR, ORA (R182): the result in the accumulator, n and z from it. -/
def logic (f : Word → Word → Word) (o : Operand) (s : State) : Out :=
  let r := f (s.acc s.wA) (s.readData (o.loc s) s.wA)
  accessOnce o s.wA s (((s.setAcc s.wA r).setNZ s.wA r).advance (o.len s))

/-- AND (R180). -/
def and1 (o : Operand) (s : State) : Out := logic (fun a m => a &&& m) o s

/-- EOR (R183). -/
def eor (o : Operand) (s : State) : Out := logic (fun a m => a ^^^ m) o s

/-- ORA (R184). -/
def ora (o : Operand) (s : State) : Out := logic (fun a m => a ||| m) o s

/-- z of BIT, TRB and TSB: no bit set in both accumulator and memory (R181, R189, R190). -/
def State.setTestZ (t : State) (a m : Word) : State := t.setFlag .z (a &&& m == 0#16)

/-- BIT with an immediate (R181): z alone is written. -/
def bitImmediate (o : Operand) (s : State) : Out :=
  .next ((s.setTestZ (s.acc s.wA) (s.readData (o.loc s) s.wA)).advance (o.len s))

/-- BIT with a memory operand (R181): n and v are the two top bits of memory. -/
def bitMemory (o : Operand) (s : State) : Out :=
  let m := s.readData (o.loc s) s.wA
  accessOnce o s.wA s
    ((((s.setTestZ (s.acc s.wA) m).setFlag .n (msb s.wA m)).setFlag .v (nextMsb s.wA m)).advance (o.len s))

/-- n, z and c of a shift or rotate (R191). -/
def State.setShift (t : State) (w : Width) (r : ShiftOut) : State := (t.setNZ w r.r).setFlag .c r.c

/-- ASL, LSR, ROL, ROR (R191). -/
def shift (f : Width → Word → ShiftOut) (o : Operand) (s : State) : Out :=
  rmw o (fun w v => (f w v).r) (fun t w v => t.setShift w (f w v)) s

/-- ASL (R185). -/
def asl (o : Operand) (s : State) : Out := shift aslOut o s

/-- LSR (R186). -/
def lsr (o : Operand) (s : State) : Out := shift lsrOut o s

/-- ROL (R187), with the carry before the instruction. -/
def rol (o : Operand) (s : State) : Out := shift (fun w v => rolOut w v (s.flag .c)) o s

/-- ROR (R188), with the carry before the instruction. -/
def ror (o : Operand) (s : State) : Out := shift (fun w v => rorOut w v (s.flag .c)) o s

/-- TRB (R189): z from the value read, the accumulator's bits cleared in memory. -/
def trb (o : Operand) (s : State) : Out :=
  rmw o (fun _ m => m &&& ~~~(s.acc s.wA)) (fun t _ m => t.setTestZ (s.acc s.wA) m) s

/-- TSB (R190): z from the value read, the accumulator's bits set in memory. -/
def tsb (o : Operand) (s : State) : Out :=
  rmw o (fun _ m => m ||| s.acc s.wA) (fun t _ m => t.setTestZ (s.acc s.wA) m) s

/-- `AND (dp,X)`, opcode 21 (R180, R134). -/
def execAndDpXInd (o : Byte) (s : State) : Out := and1 (.dpXInd o) s

/-- `AND sr,S`, opcode 23 (R180, R140). -/
def execAndSr (o : Byte) (s : State) : Out := and1 (.sr o) s

/-- `AND dp`, opcode 25 (R180, R129). -/
def execAndDp (o : Byte) (s : State) : Out := and1 (.dp o) s

/-- `AND [dp]`, opcode 27 (R180, R133). -/
def execAndDpIndLong (o : Byte) (s : State) : Out := and1 (.dpIndLong o) s

/-- `AND #const`, opcode 29 (R180, R125). -/
def execAndImm (v : Word) (s : State) : Out := and1 (.immM v) s

/-- `AND addr`, opcode 2D (R180, R126). -/
def execAndAbs (a : Word) (s : State) : Out := and1 (.abs a) s

/-- `AND long`, opcode 2F (R180, R128). -/
def execAndLong (a : Addr) (s : State) : Out := and1 (.long a) s

/-- `AND (dp),Y`, opcode 31 (R180, R135). -/
def execAndDpIndY (o : Byte) (s : State) : Out := and1 (.dpIndY o) s

/-- `AND (dp)`, opcode 32 (R180, R132). -/
def execAndDpInd (o : Byte) (s : State) : Out := and1 (.dpInd o) s

/-- `AND (sr,S),Y`, opcode 33 (R180, R141). -/
def execAndSrIndY (o : Byte) (s : State) : Out := and1 (.srIndY o) s

/-- `AND dp,X`, opcode 35 (R180, R130). -/
def execAndDpX (o : Byte) (s : State) : Out := and1 (.dpX o) s

/-- `AND [dp],Y`, opcode 37 (R180, R136). -/
def execAndDpIndLongY (o : Byte) (s : State) : Out := and1 (.dpIndLongY o) s

/-- `AND addr,Y`, opcode 39 (R180, R138). -/
def execAndAbsY (a : Word) (s : State) : Out := and1 (.absY a) s

/-- `AND addr,X`, opcode 3D (R180, R137). -/
def execAndAbsX (a : Word) (s : State) : Out := and1 (.absX a) s

/-- `AND long,X`, opcode 3F (R180, R139). -/
def execAndLongX (a : Addr) (s : State) : Out := and1 (.longX a) s

/-- `EOR (dp,X)`, opcode 41 (R183, R134). -/
def execEorDpXInd (o : Byte) (s : State) : Out := eor (.dpXInd o) s

/-- `EOR sr,S`, opcode 43 (R183, R140). -/
def execEorSr (o : Byte) (s : State) : Out := eor (.sr o) s

/-- `EOR dp`, opcode 45 (R183, R129). -/
def execEorDp (o : Byte) (s : State) : Out := eor (.dp o) s

/-- `EOR [dp]`, opcode 47 (R183, R133). -/
def execEorDpIndLong (o : Byte) (s : State) : Out := eor (.dpIndLong o) s

/-- `EOR #const`, opcode 49 (R183, R125). -/
def execEorImm (v : Word) (s : State) : Out := eor (.immM v) s

/-- `EOR addr`, opcode 4D (R183, R126). -/
def execEorAbs (a : Word) (s : State) : Out := eor (.abs a) s

/-- `EOR long`, opcode 4F (R183, R128). -/
def execEorLong (a : Addr) (s : State) : Out := eor (.long a) s

/-- `EOR (dp),Y`, opcode 51 (R183, R135). -/
def execEorDpIndY (o : Byte) (s : State) : Out := eor (.dpIndY o) s

/-- `EOR (dp)`, opcode 52 (R183, R132). -/
def execEorDpInd (o : Byte) (s : State) : Out := eor (.dpInd o) s

/-- `EOR (sr,S),Y`, opcode 53 (R183, R141). -/
def execEorSrIndY (o : Byte) (s : State) : Out := eor (.srIndY o) s

/-- `EOR dp,X`, opcode 55 (R183, R130). -/
def execEorDpX (o : Byte) (s : State) : Out := eor (.dpX o) s

/-- `EOR [dp],Y`, opcode 57 (R183, R136). -/
def execEorDpIndLongY (o : Byte) (s : State) : Out := eor (.dpIndLongY o) s

/-- `EOR addr,Y`, opcode 59 (R183, R138). -/
def execEorAbsY (a : Word) (s : State) : Out := eor (.absY a) s

/-- `EOR addr,X`, opcode 5D (R183, R137). -/
def execEorAbsX (a : Word) (s : State) : Out := eor (.absX a) s

/-- `EOR long,X`, opcode 5F (R183, R139). -/
def execEorLongX (a : Addr) (s : State) : Out := eor (.longX a) s

/-- `ORA (dp,X)`, opcode 01 (R184, R134). -/
def execOraDpXInd (o : Byte) (s : State) : Out := ora (.dpXInd o) s

/-- `ORA sr,S`, opcode 03 (R184, R140). -/
def execOraSr (o : Byte) (s : State) : Out := ora (.sr o) s

/-- `ORA dp`, opcode 05 (R184, R129). -/
def execOraDp (o : Byte) (s : State) : Out := ora (.dp o) s

/-- `ORA [dp]`, opcode 07 (R184, R133). -/
def execOraDpIndLong (o : Byte) (s : State) : Out := ora (.dpIndLong o) s

/-- `ORA #const`, opcode 09 (R184, R125). -/
def execOraImm (v : Word) (s : State) : Out := ora (.immM v) s

/-- `ORA addr`, opcode 0D (R184, R126). -/
def execOraAbs (a : Word) (s : State) : Out := ora (.abs a) s

/-- `ORA long`, opcode 0F (R184, R128). -/
def execOraLong (a : Addr) (s : State) : Out := ora (.long a) s

/-- `ORA (dp),Y`, opcode 11 (R184, R135). -/
def execOraDpIndY (o : Byte) (s : State) : Out := ora (.dpIndY o) s

/-- `ORA (dp)`, opcode 12 (R184, R132). -/
def execOraDpInd (o : Byte) (s : State) : Out := ora (.dpInd o) s

/-- `ORA (sr,S),Y`, opcode 13 (R184, R141). -/
def execOraSrIndY (o : Byte) (s : State) : Out := ora (.srIndY o) s

/-- `ORA dp,X`, opcode 15 (R184, R130). -/
def execOraDpX (o : Byte) (s : State) : Out := ora (.dpX o) s

/-- `ORA [dp],Y`, opcode 17 (R184, R136). -/
def execOraDpIndLongY (o : Byte) (s : State) : Out := ora (.dpIndLongY o) s

/-- `ORA addr,Y`, opcode 19 (R184, R138). -/
def execOraAbsY (a : Word) (s : State) : Out := ora (.absY a) s

/-- `ORA addr,X`, opcode 1D (R184, R137). -/
def execOraAbsX (a : Word) (s : State) : Out := ora (.absX a) s

/-- `ORA long,X`, opcode 1F (R184, R139). -/
def execOraLongX (a : Addr) (s : State) : Out := ora (.longX a) s

/-- `BIT dp`, opcode 24 (R181, R129). -/
def execBitDp (o : Byte) (s : State) : Out := bitMemory (.dp o) s

/-- `BIT addr`, opcode 2C (R181, R126). -/
def execBitAbs (a : Word) (s : State) : Out := bitMemory (.abs a) s

/-- `BIT dp,X`, opcode 34 (R181, R130). -/
def execBitDpX (o : Byte) (s : State) : Out := bitMemory (.dpX o) s

/-- `BIT addr,X`, opcode 3C (R181, R137). -/
def execBitAbsX (a : Word) (s : State) : Out := bitMemory (.absX a) s

/-- `BIT #const`, opcode 89 (R181, R125). -/
def execBitImm (v : Word) (s : State) : Out := bitImmediate (.immM v) s

/-- `ASL dp`, opcode 06 (R185, R129). -/
def execAslDp (o : Byte) (s : State) : Out := asl (.dp o) s

/-- `ASL A`, opcode 0A (R185, R124). -/
def execAslA (s : State) : Out := asl .acc s

/-- `ASL addr`, opcode 0E (R185, R126). -/
def execAslAbs (a : Word) (s : State) : Out := asl (.abs a) s

/-- `ASL dp,X`, opcode 16 (R185, R130). -/
def execAslDpX (o : Byte) (s : State) : Out := asl (.dpX o) s

/-- `ASL addr,X`, opcode 1E (R185, R137). -/
def execAslAbsX (a : Word) (s : State) : Out := asl (.absX a) s

/-- `LSR dp`, opcode 46 (R186, R129). -/
def execLsrDp (o : Byte) (s : State) : Out := lsr (.dp o) s

/-- `LSR A`, opcode 4A (R186, R124). -/
def execLsrA (s : State) : Out := lsr .acc s

/-- `LSR addr`, opcode 4E (R186, R126). -/
def execLsrAbs (a : Word) (s : State) : Out := lsr (.abs a) s

/-- `LSR dp,X`, opcode 56 (R186, R130). -/
def execLsrDpX (o : Byte) (s : State) : Out := lsr (.dpX o) s

/-- `LSR addr,X`, opcode 5E (R186, R137). -/
def execLsrAbsX (a : Word) (s : State) : Out := lsr (.absX a) s

/-- `ROL dp`, opcode 26 (R187, R129). -/
def execRolDp (o : Byte) (s : State) : Out := rol (.dp o) s

/-- `ROL A`, opcode 2A (R187, R124). -/
def execRolA (s : State) : Out := rol .acc s

/-- `ROL addr`, opcode 2E (R187, R126). -/
def execRolAbs (a : Word) (s : State) : Out := rol (.abs a) s

/-- `ROL dp,X`, opcode 36 (R187, R130). -/
def execRolDpX (o : Byte) (s : State) : Out := rol (.dpX o) s

/-- `ROL addr,X`, opcode 3E (R187, R137). -/
def execRolAbsX (a : Word) (s : State) : Out := rol (.absX a) s

/-- `ROR dp`, opcode 66 (R188, R129). -/
def execRorDp (o : Byte) (s : State) : Out := ror (.dp o) s

/-- `ROR A`, opcode 6A (R188, R124). -/
def execRorA (s : State) : Out := ror .acc s

/-- `ROR addr`, opcode 6E (R188, R126). -/
def execRorAbs (a : Word) (s : State) : Out := ror (.abs a) s

/-- `ROR dp,X`, opcode 76 (R188, R130). -/
def execRorDpX (o : Byte) (s : State) : Out := ror (.dpX o) s

/-- `ROR addr,X`, opcode 7E (R188, R137). -/
def execRorAbsX (a : Word) (s : State) : Out := ror (.absX a) s

/-- `TRB dp`, opcode 14 (R189, R129). -/
def execTrbDp (o : Byte) (s : State) : Out := trb (.dp o) s

/-- `TRB addr`, opcode 1C (R189, R126). -/
def execTrbAbs (a : Word) (s : State) : Out := trb (.abs a) s

/-- `TSB dp`, opcode 04 (R190, R129). -/
def execTsbDp (o : Byte) (s : State) : Out := tsb (.dp o) s

/-- `TSB addr`, opcode 0C (R190, R126). -/
def execTsbAbs (a : Word) (s : State) : Out := tsb (.abs a) s

end Sys2Proof.Machine
end

