-- ==== Sys2Proof/Machine/Flow.lean ====
section
/-! DEFINITION. The flag instructions, REP, SEP, the compares, branches, jumps and subroutines (43_program_flow.md). -/

namespace Sys2Proof.Machine

/-- A one-byte instruction that writes one flag (R200 to R206). -/
def writeFlag (f : Flag) (b : Bool) (s : State) : Out := .next ((s.setFlag f b).advance 1)

/-- CMP (R209). -/
def cmp (o : Operand) (s : State) : Out :=
  accessOnce o s.wA s ((s.setCompare s.wA (s.acc s.wA) (s.readData (o.loc s) s.wA)).advance (o.len s))

/-- CPX, CPY (R210, R211). -/
def cmpIndex (r : IndexReg) (o : Operand) (s : State) : Out :=
  .next ((s.setCompare s.wX (s.idx r s.wX) (s.readData (o.loc s) s.wX)).advance (o.len s))

/-- A conditional branch (R212). -/
def branch (cond : Bool) (disp : Byte) (s : State) : Out :=
  .next (if cond then s.jump (s.rel8Target disp) else s.advance 2)

/-- `ret` of JSR: the address of the instruction's third byte (R224). -/
def State.jsrReturn (s : State) : Word := s.pc + 2#16

/-- The state of JSR after its push (R224). -/
def State.jsrPushed (s : State) : State := s.push16 s.jsrReturn

/-- The state of JSL after its pushes: the bank, then the address of the fourth byte (R226). -/
def State.jslPushed (s : State) : State := (s.push8 s.pbr).push16 (s.pc + 3#16)

/-- `CLC`, opcode 18 (R200, R123). -/
def execClc (s : State) : Out := writeFlag .c false s

/-- `SEC`, opcode 38 (R201, R123). -/
def execSec (s : State) : Out := writeFlag .c true s

/-- `CLD`, opcode D8 (R202, R123). -/
def execCld (s : State) : Out := writeFlag .d false s

/-- `SED`, opcode F8 (R203, R123). -/
def execSed (s : State) : Out := writeFlag .d true s

/-- `CLI`, opcode 58 (R204, R123). -/
def execCli (s : State) : Out := writeFlag .i false s

/-- `SEI`, opcode 78 (R205, R123). -/
def execSei (s : State) : Out := writeFlag .i true s

/-- `CLV`, opcode B8 (R206, R123). -/
def execClv (s : State) : Out := writeFlag .v false s

/-- `REP #const`, opcode C2 (R207, R125). -/
def execRep (v : Byte) (s : State) : Out := .next ((s.setP (s.p &&& ~~~v)).advance 2)

/-- `SEP #const`, opcode E2 (R208, R125). -/
def execSep (v : Byte) (s : State) : Out := .next ((s.setP (s.p ||| v)).advance 2)

/-- `CMP (dp,X)`, opcode C1 (R209, R134). -/
def execCmpDpXInd (o : Byte) (s : State) : Out := cmp (.dpXInd o) s

/-- `CMP sr,S`, opcode C3 (R209, R140). -/
def execCmpSr (o : Byte) (s : State) : Out := cmp (.sr o) s

/-- `CMP dp`, opcode C5 (R209, R129). -/
def execCmpDp (o : Byte) (s : State) : Out := cmp (.dp o) s

/-- `CMP [dp]`, opcode C7 (R209, R133). -/
def execCmpDpIndLong (o : Byte) (s : State) : Out := cmp (.dpIndLong o) s

/-- `CMP #const`, opcode C9 (R209, R125). -/
def execCmpImm (v : Word) (s : State) : Out := cmp (.immM v) s

/-- `CMP addr`, opcode CD (R209, R126). -/
def execCmpAbs (a : Word) (s : State) : Out := cmp (.abs a) s

/-- `CMP long`, opcode CF (R209, R128). -/
def execCmpLong (a : Addr) (s : State) : Out := cmp (.long a) s

/-- `CMP (dp),Y`, opcode D1 (R209, R135). -/
def execCmpDpIndY (o : Byte) (s : State) : Out := cmp (.dpIndY o) s

/-- `CMP (dp)`, opcode D2 (R209, R132). -/
def execCmpDpInd (o : Byte) (s : State) : Out := cmp (.dpInd o) s

/-- `CMP (sr,S),Y`, opcode D3 (R209, R141). -/
def execCmpSrIndY (o : Byte) (s : State) : Out := cmp (.srIndY o) s

/-- `CMP dp,X`, opcode D5 (R209, R130). -/
def execCmpDpX (o : Byte) (s : State) : Out := cmp (.dpX o) s

/-- `CMP [dp],Y`, opcode D7 (R209, R136). -/
def execCmpDpIndLongY (o : Byte) (s : State) : Out := cmp (.dpIndLongY o) s

/-- `CMP addr,Y`, opcode D9 (R209, R138). -/
def execCmpAbsY (a : Word) (s : State) : Out := cmp (.absY a) s

/-- `CMP addr,X`, opcode DD (R209, R137). -/
def execCmpAbsX (a : Word) (s : State) : Out := cmp (.absX a) s

/-- `CMP long,X`, opcode DF (R209, R139). -/
def execCmpLongX (a : Addr) (s : State) : Out := cmp (.longX a) s

/-- `CPX #const`, opcode E0 (R210, R125). -/
def execCpxImm (v : Word) (s : State) : Out := cmpIndex .x (.immX v) s

/-- `CPX dp`, opcode E4 (R210, R129). -/
def execCpxDp (o : Byte) (s : State) : Out := cmpIndex .x (.dp o) s

/-- `CPX addr`, opcode EC (R210, R126). -/
def execCpxAbs (a : Word) (s : State) : Out := cmpIndex .x (.abs a) s

/-- `CPY #const`, opcode C0 (R211, R125). -/
def execCpyImm (v : Word) (s : State) : Out := cmpIndex .y (.immX v) s

/-- `CPY dp`, opcode C4 (R211, R129). -/
def execCpyDp (o : Byte) (s : State) : Out := cmpIndex .y (.dp o) s

/-- `CPY addr`, opcode CC (R211, R126). -/
def execCpyAbs (a : Word) (s : State) : Out := cmpIndex .y (.abs a) s

/-- `BCC nearlabel`, opcode 90 (R213, R142). -/
def execBcc (disp : Byte) (s : State) : Out := branch (!s.flag .c) disp s

/-- `BCS nearlabel`, opcode B0 (R214, R142). -/
def execBcs (disp : Byte) (s : State) : Out := branch (s.flag .c) disp s

/-- `BEQ nearlabel`, opcode F0 (R215, R142). -/
def execBeq (disp : Byte) (s : State) : Out := branch (s.flag .z) disp s

/-- `BNE nearlabel`, opcode D0 (R216, R142). -/
def execBne (disp : Byte) (s : State) : Out := branch (!s.flag .z) disp s

/-- `BMI nearlabel`, opcode 30 (R217, R142). -/
def execBmi (disp : Byte) (s : State) : Out := branch (s.flag .n) disp s

/-- `BPL nearlabel`, opcode 10 (R218, R142). -/
def execBpl (disp : Byte) (s : State) : Out := branch (!s.flag .n) disp s

/-- `BVC nearlabel`, opcode 50 (R219, R142). -/
def execBvc (disp : Byte) (s : State) : Out := branch (!s.flag .v) disp s

/-- `BVS nearlabel`, opcode 70 (R220, R142). -/
def execBvs (disp : Byte) (s : State) : Out := branch (s.flag .v) disp s

/-- `JMP addr`, opcode 4C (R221, R127). -/
def execJmpAbs (a : Word) (s : State) : Out := .next (s.jump a)

/-- `JMP long`, opcode 5C (R221, R128). -/
def execJmpLong (a : Addr) (s : State) : Out := .next (s.jumpLong (a.extractLsb' 16 8) (a.extractLsb' 0 16))

/-- `JMP (addr)`, opcode 6C (R221, R144). -/
def execJmpInd (a : Word) (s : State) : Out := .next (s.jump (s.absIndTarget a))

/-- `JMP (addr,X)`, opcode 7C (R221, R145).
An indexed read of the pointer from a device that extra bus cycles may disturb is refused (U13). -/
def execJmpXInd (a : Word) (s : State) : Out :=
  if s.meetsSensitiveDevice (s.absXIndLoc a) .w16 then .refused .deviceRMW
  else .next (s.jump (s.absXIndTarget a))

/-- `JMP [addr]`, opcode DC (R221, R146). -/
def execJmpIndLong (a : Word) (s : State) : Out := .next (s.jumpLong (s.absIndLongBank a) (s.absIndLongTarget a))

/-- `BRA nearlabel`, opcode 80 (R222, R142). -/
def execBra (disp : Byte) (s : State) : Out := branch true disp s

/-- `BRL label`, opcode 82 (R223, R143). -/
def execBrl (disp : Word) (s : State) : Out := .next (s.jump (s.rel16Target disp))

/-- `JSR addr`, opcode 20 (R224, R127). -/
def execJsrAbs (a : Word) (s : State) : Out := .next (s.jsrPushed.jump a)

/-- `JSR (addr,X)`, opcode FC (R224, R145).
The pointer is read after the push; the corner of R154 is refused, and so is an indexed read of the pointer from a device that
extra bus cycles may disturb (U13). -/
def execJsrXInd (a : Word) (s : State) : Out :=
  if s.pushWraps 2 then .refused .emulationStackWrap
  else if s.meetsSensitiveDevice (s.absXIndLoc a) .w16 then .refused .deviceRMW
  else .next (s.jsrPushed.jump (s.jsrPushed.absXIndTarget a))

/-- `RTS`, opcode 60 (R225, R123). -/
def execRts (s : State) : Out := .next (s.pull16.2.jump (s.pull16.1 + 1#16))

/-- `JSL long`, opcode 22 (R226, R128).
The corner of R154 is refused. -/
def execJsl (a : Addr) (s : State) : Out := 
  if s.pushWraps 3 then .refused .emulationStackWrap
  else .next (s.jslPushed.jumpLong (a.extractLsb' 16 8) (a.extractLsb' 0 16))

/-- `RTL`, opcode 6B (R227, R123).
The increment stays in the bank; the corner of R154 is refused. -/
def execRtl (s : State) : Out := 
  if s.pullWraps 3 then .refused .emulationStackWrap
  else .next (s.pull16.2.pull8.2.jumpLong s.pull16.2.pull8.1 (s.pull16.1 + 1#16))

end Sys2Proof.Machine
end

