-- ==== Sys2Proof/Machine/Interrupts.lean ====
section
/-! DEFINITION. BRK, COP, RTI, WAI (46_interrupts.md); the sequences themselves stand in Ops.lean. -/

namespace Sys2Proof.Machine

/-- `BRK`, opcode 00 (R300, R148). The signature byte is fetched and ignored (R105). -/
def execBrk (_sig : Byte) (s : State) : Out := .next (s.enterInterrupt .brk (s.pc + 2#16))

/-- `COP const`, opcode 02 (R301, R148). No co-processor traps it (R107). -/
def execCop (_sig : Byte) (s : State) : Out := .next (s.enterInterrupt .cop (s.pc + 2#16))

/-- `RTI`, opcode 40 (R302, R123). -/
def execRti (s : State) : Out := .next s.returnFromInterrupt

/-- `WAI`, opcode CB (R303, R123). -/
def execWai (s : State) : Out := .next { s.advance 1 with run := .waiting }

end Sys2Proof.Machine
end

