-- ==== Sys2Proof/Machine/Misc.lean ====
section
/-! DEFINITION. MVN, MVP, XCE, NOP, WDM, STP (47_misc.md). -/

namespace Sys2Proof.Machine

/-- The destination bank of a block move from its operand bytes (R93, R310). -/
def destBank (order : BlockMoveOrder) (b1 b2 : Byte) : Byte :=
  match order with
  | .dstFirst => b1
  | .srcFirst => b2

/-- The source bank of a block move from its operand bytes (R93, R310). -/
def sourceBank (order : BlockMoveOrder) (b1 b2 : Byte) : Byte :=
  match order with
  | .dstFirst => b2
  | .srcFirst => b1

/-- One step of MVN or MVP: one byte moved, X and Y stepped by `f`, C counted down, PC kept until C wraps (R310, R311). -/
def blockMove (f : Width → Word → Word) (dst src : Byte) (s : State) : Out :=
  let v := s.read .data (bankAddr src s.x)
  let t := s.write (bankAddr dst s.y) v
  let u : State :=
    { t with
      dbr := dst
      x := f s.wX s.x
      y := f s.wX s.y
      c := s.c - 1#16 }
  .next (if u.c = 0xFFFF#16 then u.advance 3 else u)

/-- X, Y one up mod 2^w (R310). -/
def stepUp (w : Width) (v : Word) : Word := narrow w (v + 1#16)

/-- X, Y one down mod 2^w (R311). -/
def stepDown (w : Width) (v : Word) : Word := narrow w (v - 1#16)

/-- The exchange of XCE (R312): entering emulation mode forces bits 5 and 4 of P, the index registers and S; entering native
mode from it sets m and x. -/
def State.exchangeCE (s : State) : State :=
  let t := { s with e := s.flag .c }.setFlag .c s.e
  if s.flag .c then
    { t with
      p := t.p ||| 0x30#8
      x := narrow .w8 t.x
      y := narrow .w8 t.y
      s := word 0x01#8 (loByte t.s) }
  else if s.e then { t with p := t.p ||| 0x30#8 }
  else t

/-- `MVN srcbk, dstbk`, opcode 54 (R310, R147). -/
def execMvn (b1 : Byte) (b2 : Byte) (s : State) : Out := 
  blockMove stepUp (destBank s.cfg.blockMoveOrder b1 b2) (sourceBank s.cfg.blockMoveOrder b1 b2) s

/-- `MVP srcbk, dstbk`, opcode 44 (R311, R147). -/
def execMvp (b1 : Byte) (b2 : Byte) (s : State) : Out := 
  blockMove stepDown (destBank s.cfg.blockMoveOrder b1 b2) (sourceBank s.cfg.blockMoveOrder b1 b2) s

/-- `XCE`, opcode FB (R312, R123). -/
def execXce (s : State) : Out := .next (s.exchangeCE.advance 1)

/-- `NOP`, opcode EA (R313, R123). -/
def execNop (s : State) : Out := .next (s.advance 1)

/-- `WDM`, opcode 42 (R314, R123). -/
def execWdm (_b : Byte) (s : State) : Out := .next (s.advance 2)

/-- `STP`, opcode DB (R315, R123). -/
def execStp (s : State) : Out := .next { s.advance 1 with run := .stopped }

end Sys2Proof.Machine
end

