-- ==== Sys2Proof/Machine/Registers.lean ====
section
/-! DEFINITION. The loads, stores, transfers and XBA (44_registers.md). -/

namespace Sys2Proof.Machine

/-- LDA (R240). -/
def lda (o : Operand) (s : State) : Out :=
  accessOnce o s.wA s
    (((s.setAcc s.wA (s.readData (o.loc s) s.wA)).setNZ s.wA (s.readData (o.loc s) s.wA)).advance (o.len s))

/-- LDX, LDY (R241, R242). -/
def ldIndex (r : IndexReg) (o : Operand) (s : State) : Out :=
  accessOnce o s.wX s
    (((s.setIdx r s.wX (s.readData (o.loc s) s.wX)).setNZ s.wX (s.readData (o.loc s) s.wX)).advance (o.len s))

/-- The operand of LDX opcode B6: `dp,Y`, or `dp,X` under `LDX_INDEX = X` (R241). -/
def ldxDpOperand (i : LdxIndex) (o : Byte) : Operand :=
  match i with
  | .y => .dpY o
  | .x => .dpX o

/-- The operand of LDX opcode BE: `addr,Y`, or `addr,X` under `LDX_INDEX = X` (R241). -/
def ldxAbsOperand (i : LdxIndex) (a : Word) : Operand :=
  match i with
  | .y => .absY a
  | .x => .absX a

/-- STA (R243). -/
def sta (o : Operand) (s : State) : Out := store o s.wA (s.acc s.wA) s

/-- STX, STY (R244, R245). -/
def stIndex (r : IndexReg) (o : Operand) (s : State) : Out := store o s.wX (s.idx r s.wX) s

/-- STZ (R246). -/
def stz (o : Operand) (s : State) : Out := store o s.wA 0#16 s

/-- A transfer into an index register at the index width (R248, R249, R254, R257, R259). -/
def toIndex (r : IndexReg) (v : Word) (s : State) : Out :=
  .next (((s.setIdx r s.wX (narrow s.wX v)).setNZ s.wX (narrow s.wX v)).advance 1)

/-- A transfer into the accumulator at the accumulator width (R255, R258). -/
def toAcc (v : Word) (s : State) : Out :=
  .next (((s.setAcc s.wA (narrow s.wA v)).setNZ s.wA (narrow s.wA v)).advance 1)

/-- A transfer of 16 bits into C, whatever m and e are (R252, R253). -/
def toC (v : Word) (s : State) : Out := .next (((s.setAcc .w16 v).setNZ .w16 v).advance 1)

/-- The halves of C exchanged (R260). -/
def swapHalves (v : Word) : Word := word (loByte v) (hiByte v)

/-- `LDA (dp,X)`, opcode A1 (R240, R134). -/
def execLdaDpXInd (o : Byte) (s : State) : Out := lda (.dpXInd o) s

/-- `LDA sr,S`, opcode A3 (R240, R140). -/
def execLdaSr (o : Byte) (s : State) : Out := lda (.sr o) s

/-- `LDA dp`, opcode A5 (R240, R129). -/
def execLdaDp (o : Byte) (s : State) : Out := lda (.dp o) s

/-- `LDA [dp]`, opcode A7 (R240, R133). -/
def execLdaDpIndLong (o : Byte) (s : State) : Out := lda (.dpIndLong o) s

/-- `LDA #const`, opcode A9 (R240, R125). -/
def execLdaImm (v : Word) (s : State) : Out := lda (.immM v) s

/-- `LDA addr`, opcode AD (R240, R126). -/
def execLdaAbs (a : Word) (s : State) : Out := lda (.abs a) s

/-- `LDA long`, opcode AF (R240, R128). -/
def execLdaLong (a : Addr) (s : State) : Out := lda (.long a) s

/-- `LDA (dp),Y`, opcode B1 (R240, R135). -/
def execLdaDpIndY (o : Byte) (s : State) : Out := lda (.dpIndY o) s

/-- `LDA (dp)`, opcode B2 (R240, R132). -/
def execLdaDpInd (o : Byte) (s : State) : Out := lda (.dpInd o) s

/-- `LDA (sr,S),Y`, opcode B3 (R240, R141). -/
def execLdaSrIndY (o : Byte) (s : State) : Out := lda (.srIndY o) s

/-- `LDA dp,X`, opcode B5 (R240, R130). -/
def execLdaDpX (o : Byte) (s : State) : Out := lda (.dpX o) s

/-- `LDA [dp],Y`, opcode B7 (R240, R136). -/
def execLdaDpIndLongY (o : Byte) (s : State) : Out := lda (.dpIndLongY o) s

/-- `LDA addr,Y`, opcode B9 (R240, R138). -/
def execLdaAbsY (a : Word) (s : State) : Out := lda (.absY a) s

/-- `LDA addr,X`, opcode BD (R240, R137). -/
def execLdaAbsX (a : Word) (s : State) : Out := lda (.absX a) s

/-- `LDA long,X`, opcode BF (R240, R139). -/
def execLdaLongX (a : Addr) (s : State) : Out := lda (.longX a) s

/-- `LDX #const`, opcode A2 (R241, R125). -/
def execLdxImm (v : Word) (s : State) : Out := ldIndex .x (.immX v) s

/-- `LDX dp`, opcode A6 (R241, R129). -/
def execLdxDp (o : Byte) (s : State) : Out := ldIndex .x (.dp o) s

/-- `LDX addr`, opcode AE (R241, R126). -/
def execLdxAbs (a : Word) (s : State) : Out := ldIndex .x (.abs a) s

/-- `LDX dp,Y`, opcode B6 (R241, R131). -/
def execLdxDpY (o : Byte) (s : State) : Out := ldIndex .x (ldxDpOperand s.cfg.ldxIndex o) s

/-- `LDX addr,Y`, opcode BE (R241, R138). -/
def execLdxAbsY (a : Word) (s : State) : Out := ldIndex .x (ldxAbsOperand s.cfg.ldxIndex a) s

/-- `LDY #const`, opcode A0 (R242, R125). -/
def execLdyImm (v : Word) (s : State) : Out := ldIndex .y (.immX v) s

/-- `LDY dp`, opcode A4 (R242, R129). -/
def execLdyDp (o : Byte) (s : State) : Out := ldIndex .y (.dp o) s

/-- `LDY addr`, opcode AC (R242, R126). -/
def execLdyAbs (a : Word) (s : State) : Out := ldIndex .y (.abs a) s

/-- `LDY dp,X`, opcode B4 (R242, R130). -/
def execLdyDpX (o : Byte) (s : State) : Out := ldIndex .y (.dpX o) s

/-- `LDY addr,X`, opcode BC (R242, R137). -/
def execLdyAbsX (a : Word) (s : State) : Out := ldIndex .y (.absX a) s

/-- `STA (dp,X)`, opcode 81 (R243, R134). -/
def execStaDpXInd (o : Byte) (s : State) : Out := sta (.dpXInd o) s

/-- `STA sr,S`, opcode 83 (R243, R140). -/
def execStaSr (o : Byte) (s : State) : Out := sta (.sr o) s

/-- `STA dp`, opcode 85 (R243, R129). -/
def execStaDp (o : Byte) (s : State) : Out := sta (.dp o) s

/-- `STA [dp]`, opcode 87 (R243, R133). -/
def execStaDpIndLong (o : Byte) (s : State) : Out := sta (.dpIndLong o) s

/-- `STA addr`, opcode 8D (R243, R126). -/
def execStaAbs (a : Word) (s : State) : Out := sta (.abs a) s

/-- `STA long`, opcode 8F (R243, R128). -/
def execStaLong (a : Addr) (s : State) : Out := sta (.long a) s

/-- `STA (dp),Y`, opcode 91 (R243, R135). -/
def execStaDpIndY (o : Byte) (s : State) : Out := sta (.dpIndY o) s

/-- `STA (dp)`, opcode 92 (R243, R132). -/
def execStaDpInd (o : Byte) (s : State) : Out := sta (.dpInd o) s

/-- `STA (sr,S),Y`, opcode 93 (R243, R141). -/
def execStaSrIndY (o : Byte) (s : State) : Out := sta (.srIndY o) s

/-- `STA dp,X`, opcode 95 (R243, R130). -/
def execStaDpX (o : Byte) (s : State) : Out := sta (.dpX o) s

/-- `STA [dp],Y`, opcode 97 (R243, R136). -/
def execStaDpIndLongY (o : Byte) (s : State) : Out := sta (.dpIndLongY o) s

/-- `STA addr,Y`, opcode 99 (R243, R138). -/
def execStaAbsY (a : Word) (s : State) : Out := sta (.absY a) s

/-- `STA addr,X`, opcode 9D (R243, R137). -/
def execStaAbsX (a : Word) (s : State) : Out := sta (.absX a) s

/-- `STA long,X`, opcode 9F (R243, R139). -/
def execStaLongX (a : Addr) (s : State) : Out := sta (.longX a) s

/-- `STX dp`, opcode 86 (R244, R129). -/
def execStxDp (o : Byte) (s : State) : Out := stIndex .x (.dp o) s

/-- `STX addr`, opcode 8E (R244, R126). -/
def execStxAbs (a : Word) (s : State) : Out := stIndex .x (.abs a) s

/-- `STX dp,Y`, opcode 96 (R244, R131). -/
def execStxDpY (o : Byte) (s : State) : Out := stIndex .x (.dpY o) s

/-- `STY dp`, opcode 84 (R245, R129). -/
def execStyDp (o : Byte) (s : State) : Out := stIndex .y (.dp o) s

/-- `STY addr`, opcode 8C (R245, R126). -/
def execStyAbs (a : Word) (s : State) : Out := stIndex .y (.abs a) s

/-- `STY dp,X`, opcode 94 (R245, R130). -/
def execStyDpX (o : Byte) (s : State) : Out := stIndex .y (.dpX o) s

/-- `STZ dp`, opcode 64 (R246, R129). -/
def execStzDp (o : Byte) (s : State) : Out := stz (.dp o) s

/-- `STZ dp,X`, opcode 74 (R246, R130). -/
def execStzDpX (o : Byte) (s : State) : Out := stz (.dpX o) s

/-- `STZ addr`, opcode 9C (R246, R126). -/
def execStzAbs (a : Word) (s : State) : Out := stz (.abs a) s

/-- `STZ addr,X`, opcode 9E (R246, R137). -/
def execStzAbsX (a : Word) (s : State) : Out := stz (.absX a) s

/-- `TAX`, opcode AA (R248, R123). -/
def execTax (s : State) : Out := toIndex .x s.c s

/-- `TAY`, opcode A8 (R249, R123). -/
def execTay (s : State) : Out := toIndex .y s.c s

/-- `TCD`, opcode 5B (R250, R123). -/
def execTcd (s : State) : Out := .next ((({ s with d := s.c } : State).setNZ .w16 s.c).advance 1)

/-- `TCS`, opcode 1B (R251, R123). -/
def execTcs (s : State) : Out := .next ((s.setS s.c).advance 1)

/-- `TDC`, opcode 7B (R252, R123). -/
def execTdc (s : State) : Out := toC s.d s

/-- `TSC`, opcode 3B (R253, R123). -/
def execTsc (s : State) : Out := toC s.s s

/-- `TSX`, opcode BA (R254, R123). -/
def execTsx (s : State) : Out := toIndex .x s.s s

/-- `TXA`, opcode 8A (R255, R123). -/
def execTxa (s : State) : Out := toAcc s.x s

/-- `TXS`, opcode 9A (R256, R123). -/
def execTxs (s : State) : Out := .next ((s.setS s.x).advance 1)

/-- `TXY`, opcode 9B (R257, R123). -/
def execTxy (s : State) : Out := toIndex .y s.x s

/-- `TYA`, opcode 98 (R258, R123). -/
def execTya (s : State) : Out := toAcc s.y s

/-- `TYX`, opcode BB (R259, R123). -/
def execTyx (s : State) : Out := toIndex .x s.y s

/-- `XBA`, opcode EB (R260, R123). -/
def execXba (s : State) : Out := 
  .next (((s.setAcc .w16 (swapHalves s.c)).setNZ .w8 (narrow .w8 (swapHalves s.c))).advance 1)

end Sys2Proof.Machine
end

