-- ==== Sys2Proof/Machine/Stack.lean ====
section
/-! DEFINITION. The pulls and pushes (45_stack.md). -/

namespace Sys2Proof.Machine

/-- A push instruction of one byte that moves a value of width w (R280, R285). -/
def push (w : Width) (v : Word) (s : State) : Out := .next ((s.pushW w v).advance 1)

/-- PHB, PHK, PHP: one byte (R281, R283, R284). -/
def pushByte (v : Byte) (s : State) : Out := .next ((s.push8 v).advance 1)

/-- PEA, PEI, PER, PHD: 16 bits, refused in the corner of R154; `n` is the length of the instruction. -/
def pushWord (v : Word) (n : Nat) (s : State) : Out :=
  if s.pushWraps 2 then .refused .emulationStackWrap else .next ((s.push16 v).advance n)

/-- PLX, PLY (R275, R276). -/
def pullIndex (r : IndexReg) (s : State) : Out :=
  .next ((((s.pullW s.wX).2.setIdx r s.wX (s.pullW s.wX).1).setNZ s.wX (s.pullW s.wX).1).advance 1)

/-- The byte PHP pushes (R284): bits 5 and 4 are 1 outside native mode. -/
def State.phpByte (s : State) : Byte := if s.e then s.p ||| 0x30#8 else s.p

/-- `PLA`, opcode 68 (R271, R123). -/
def execPla (s : State) : Out := 
  .next ((((s.pullW s.wA).2.setAcc s.wA (s.pullW s.wA).1).setNZ s.wA (s.pullW s.wA).1).advance 1)

/-- `PLB`, opcode AB (R272, R123). -/
def execPlb (s : State) : Out := 
  if s.pullWraps 1 then .refused .emulationStackWrap
  else .next ((({ s.pull8.2 with dbr := s.pull8.1 } : State).setNZ .w8 (zext s.pull8.1)).advance 1)

/-- `PLD`, opcode 2B (R273, R123). -/
def execPld (s : State) : Out := 
  if s.pullWraps 2 then .refused .emulationStackWrap
  else .next ((({ s.pull16.2 with d := s.pull16.1 } : State).setNZ .w16 s.pull16.1).advance 1)

/-- `PLP`, opcode 28 (R274, R123). -/
def execPlp (s : State) : Out := .next ((s.pull8.2.setP s.pull8.1).advance 1)

/-- `PLX`, opcode FA (R275, R123). -/
def execPlx (s : State) : Out := pullIndex .x s

/-- `PLY`, opcode 7A (R276, R123). -/
def execPly (s : State) : Out := pullIndex .y s

/-- `PEA addr`, opcode F4 (R277, R148). -/
def execPea (v : Word) (s : State) : Out := pushWord v 3 s

/-- `PEI (dp)`, opcode D4 (R278, R148). -/
def execPei (o : Byte) (s : State) : Out := pushWord (s.dpWord (zext o)) 2 s

/-- `PER label`, opcode 62 (R279, R148). -/
def execPer (disp : Word) (s : State) : Out := pushWord (s.rel16Target disp) 3 s

/-- `PHA`, opcode 48 (R280, R123). -/
def execPha (s : State) : Out := push s.wA s.c s

/-- `PHB`, opcode 8B (R281, R123). -/
def execPhb (s : State) : Out := pushByte s.dbr s

/-- `PHD`, opcode 0B (R282, R123). -/
def execPhd (s : State) : Out := pushWord s.d 1 s

/-- `PHK`, opcode 4B (R283, R123). -/
def execPhk (s : State) : Out := pushByte s.pbr s

/-- `PHP`, opcode 08 (R284, R123). -/
def execPhp (s : State) : Out := pushByte s.phpByte s

/-- `PHX`, opcode DA (R285, R123). -/
def execPhx (s : State) : Out := push s.wX s.x s

/-- `PHY`, opcode 5A (R286, R123). -/
def execPhy (s : State) : Out := push s.wX s.y s

end Sys2Proof.Machine
end

