-- ==== Sys2Proof/Syntax.lean ====
section
/-! DEFINITION. The instructions: one constructor per row of spec/opcode_table.json (30_encoding.md R100), named by
mnemonic and addressing mode (R101), with the operand bytes of the row as arguments; those with operand bytes first, each part in
opcode order (the runtime holds at most 245 constructors with arguments). -/

namespace Sys2Proof

/-- An instruction. Immediate operands of the accumulator or index width carry both bytes (`op16` of R93); at 8 bits the
low byte alone is the operand and a well-formed instruction has high byte 0 (WellFormed.lean, log 16). -/
inductive Instr where
  /-- 00 `BRK`, R300 -/
  | brk (sig : Byte)
  /-- 01 `ORA (dp,X)`, R184 -/
  | oraDpXInd (o : Byte)
  /-- 02 `COP const`, R301 -/
  | cop (sig : Byte)
  /-- 03 `ORA sr,S`, R184 -/
  | oraSr (o : Byte)
  /-- 04 `TSB dp`, R190 -/
  | tsbDp (o : Byte)
  /-- 05 `ORA dp`, R184 -/
  | oraDp (o : Byte)
  /-- 06 `ASL dp`, R185 -/
  | aslDp (o : Byte)
  /-- 07 `ORA [dp]`, R184 -/
  | oraDpIndLong (o : Byte)
  /-- 09 `ORA #const`, R184 -/
  | oraImm (v : Word)
  /-- 0C `TSB addr`, R190 -/
  | tsbAbs (a : Word)
  /-- 0D `ORA addr`, R184 -/
  | oraAbs (a : Word)
  /-- 0E `ASL addr`, R185 -/
  | aslAbs (a : Word)
  /-- 0F `ORA long`, R184 -/
  | oraLong (a : Addr)
  /-- 10 `BPL nearlabel`, R218 -/
  | bpl (disp : Byte)
  /-- 11 `ORA (dp),Y`, R184 -/
  | oraDpIndY (o : Byte)
  /-- 12 `ORA (dp)`, R184 -/
  | oraDpInd (o : Byte)
  /-- 13 `ORA (sr,S),Y`, R184 -/
  | oraSrIndY (o : Byte)
  /-- 14 `TRB dp`, R189 -/
  | trbDp (o : Byte)
  /-- 15 `ORA dp,X`, R184 -/
  | oraDpX (o : Byte)
  /-- 16 `ASL dp,X`, R185 -/
  | aslDpX (o : Byte)
  /-- 17 `ORA [dp],Y`, R184 -/
  | oraDpIndLongY (o : Byte)
  /-- 19 `ORA addr,Y`, R184 -/
  | oraAbsY (a : Word)
  /-- 1C `TRB addr`, R189 -/
  | trbAbs (a : Word)
  /-- 1D `ORA addr,X`, R184 -/
  | oraAbsX (a : Word)
  /-- 1E `ASL addr,X`, R185 -/
  | aslAbsX (a : Word)
  /-- 1F `ORA long,X`, R184 -/
  | oraLongX (a : Addr)
  /-- 20 `JSR addr`, R224 -/
  | jsrAbs (a : Word)
  /-- 21 `AND (dp,X)`, R180 -/
  | andDpXInd (o : Byte)
  /-- 22 `JSL long`, R226 -/
  | jsl (a : Addr)
  /-- 23 `AND sr,S`, R180 -/
  | andSr (o : Byte)
  /-- 24 `BIT dp`, R181 -/
  | bitDp (o : Byte)
  /-- 25 `AND dp`, R180 -/
  | andDp (o : Byte)
  /-- 26 `ROL dp`, R187 -/
  | rolDp (o : Byte)
  /-- 27 `AND [dp]`, R180 -/
  | andDpIndLong (o : Byte)
  /-- 29 `AND #const`, R180 -/
  | andImm (v : Word)
  /-- 2C `BIT addr`, R181 -/
  | bitAbs (a : Word)
  /-- 2D `AND addr`, R180 -/
  | andAbs (a : Word)
  /-- 2E `ROL addr`, R187 -/
  | rolAbs (a : Word)
  /-- 2F `AND long`, R180 -/
  | andLong (a : Addr)
  /-- 30 `BMI nearlabel`, R217 -/
  | bmi (disp : Byte)
  /-- 31 `AND (dp),Y`, R180 -/
  | andDpIndY (o : Byte)
  /-- 32 `AND (dp)`, R180 -/
  | andDpInd (o : Byte)
  /-- 33 `AND (sr,S),Y`, R180 -/
  | andSrIndY (o : Byte)
  /-- 34 `BIT dp,X`, R181 -/
  | bitDpX (o : Byte)
  /-- 35 `AND dp,X`, R180 -/
  | andDpX (o : Byte)
  /-- 36 `ROL dp,X`, R187 -/
  | rolDpX (o : Byte)
  /-- 37 `AND [dp],Y`, R180 -/
  | andDpIndLongY (o : Byte)
  /-- 39 `AND addr,Y`, R180 -/
  | andAbsY (a : Word)
  /-- 3C `BIT addr,X`, R181 -/
  | bitAbsX (a : Word)
  /-- 3D `AND addr,X`, R180 -/
  | andAbsX (a : Word)
  /-- 3E `ROL addr,X`, R187 -/
  | rolAbsX (a : Word)
  /-- 3F `AND long,X`, R180 -/
  | andLongX (a : Addr)
  /-- 41 `EOR (dp,X)`, R183 -/
  | eorDpXInd (o : Byte)
  /-- 42 `WDM`, R314 -/
  | wdm (b : Byte)
  /-- 43 `EOR sr,S`, R183 -/
  | eorSr (o : Byte)
  /-- 44 `MVP srcbk, dstbk`, R311 -/
  | mvp (b1 : Byte) (b2 : Byte)
  /-- 45 `EOR dp`, R183 -/
  | eorDp (o : Byte)
  /-- 46 `LSR dp`, R186 -/
  | lsrDp (o : Byte)
  /-- 47 `EOR [dp]`, R183 -/
  | eorDpIndLong (o : Byte)
  /-- 49 `EOR #const`, R183 -/
  | eorImm (v : Word)
  /-- 4C `JMP addr`, R221 -/
  | jmpAbs (a : Word)
  /-- 4D `EOR addr`, R183 -/
  | eorAbs (a : Word)
  /-- 4E `LSR addr`, R186 -/
  | lsrAbs (a : Word)
  /-- 4F `EOR long`, R183 -/
  | eorLong (a : Addr)
  /-- 50 `BVC nearlabel`, R219 -/
  | bvc (disp : Byte)
  /-- 51 `EOR (dp),Y`, R183 -/
  | eorDpIndY (o : Byte)
  /-- 52 `EOR (dp)`, R183 -/
  | eorDpInd (o : Byte)
  /-- 53 `EOR (sr,S),Y`, R183 -/
  | eorSrIndY (o : Byte)
  /-- 54 `MVN srcbk, dstbk`, R310 -/
  | mvn (b1 : Byte) (b2 : Byte)
  /-- 55 `EOR dp,X`, R183 -/
  | eorDpX (o : Byte)
  /-- 56 `LSR dp,X`, R186 -/
  | lsrDpX (o : Byte)
  /-- 57 `EOR [dp],Y`, R183 -/
  | eorDpIndLongY (o : Byte)
  /-- 59 `EOR addr,Y`, R183 -/
  | eorAbsY (a : Word)
  /-- 5C `JMP long`, R221 -/
  | jmpLong (a : Addr)
  /-- 5D `EOR addr,X`, R183 -/
  | eorAbsX (a : Word)
  /-- 5E `LSR addr,X`, R186 -/
  | lsrAbsX (a : Word)
  /-- 5F `EOR long,X`, R183 -/
  | eorLongX (a : Addr)
  /-- 61 `ADC (dp,X)`, R161 -/
  | adcDpXInd (o : Byte)
  /-- 62 `PER label`, R279 -/
  | per (disp : Word)
  /-- 63 `ADC sr,S`, R161 -/
  | adcSr (o : Byte)
  /-- 64 `STZ dp`, R246 -/
  | stzDp (o : Byte)
  /-- 65 `ADC dp`, R161 -/
  | adcDp (o : Byte)
  /-- 66 `ROR dp`, R188 -/
  | rorDp (o : Byte)
  /-- 67 `ADC [dp]`, R161 -/
  | adcDpIndLong (o : Byte)
  /-- 69 `ADC #const`, R161 -/
  | adcImm (v : Word)
  /-- 6C `JMP (addr)`, R221 -/
  | jmpInd (a : Word)
  /-- 6D `ADC addr`, R161 -/
  | adcAbs (a : Word)
  /-- 6E `ROR addr`, R188 -/
  | rorAbs (a : Word)
  /-- 6F `ADC long`, R161 -/
  | adcLong (a : Addr)
  /-- 70 `BVS nearlabel`, R220 -/
  | bvs (disp : Byte)
  /-- 71 `ADC (dp),Y`, R161 -/
  | adcDpIndY (o : Byte)
  /-- 72 `ADC (dp)`, R161 -/
  | adcDpInd (o : Byte)
  /-- 73 `ADC (sr,S),Y`, R161 -/
  | adcSrIndY (o : Byte)
  /-- 74 `STZ dp,X`, R246 -/
  | stzDpX (o : Byte)
  /-- 75 `ADC dp,X`, R161 -/
  | adcDpX (o : Byte)
  /-- 76 `ROR dp,X`, R188 -/
  | rorDpX (o : Byte)
  /-- 77 `ADC [dp],Y`, R161 -/
  | adcDpIndLongY (o : Byte)
  /-- 79 `ADC addr,Y`, R161 -/
  | adcAbsY (a : Word)
  /-- 7C `JMP (addr,X)`, R221 -/
  | jmpXInd (a : Word)
  /-- 7D `ADC addr,X`, R161 -/
  | adcAbsX (a : Word)
  /-- 7E `ROR addr,X`, R188 -/
  | rorAbsX (a : Word)
  /-- 7F `ADC long,X`, R161 -/
  | adcLongX (a : Addr)
  /-- 80 `BRA nearlabel`, R222 -/
  | bra (disp : Byte)
  /-- 81 `STA (dp,X)`, R243 -/
  | staDpXInd (o : Byte)
  /-- 82 `BRL label`, R223 -/
  | brl (disp : Word)
  /-- 83 `STA sr,S`, R243 -/
  | staSr (o : Byte)
  /-- 84 `STY dp`, R245 -/
  | styDp (o : Byte)
  /-- 85 `STA dp`, R243 -/
  | staDp (o : Byte)
  /-- 86 `STX dp`, R244 -/
  | stxDp (o : Byte)
  /-- 87 `STA [dp]`, R243 -/
  | staDpIndLong (o : Byte)
  /-- 89 `BIT #const`, R181 -/
  | bitImm (v : Word)
  /-- 8C `STY addr`, R245 -/
  | styAbs (a : Word)
  /-- 8D `STA addr`, R243 -/
  | staAbs (a : Word)
  /-- 8E `STX addr`, R244 -/
  | stxAbs (a : Word)
  /-- 8F `STA long`, R243 -/
  | staLong (a : Addr)
  /-- 90 `BCC nearlabel`, R213 -/
  | bcc (disp : Byte)
  /-- 91 `STA (dp),Y`, R243 -/
  | staDpIndY (o : Byte)
  /-- 92 `STA (dp)`, R243 -/
  | staDpInd (o : Byte)
  /-- 93 `STA (sr,S),Y`, R243 -/
  | staSrIndY (o : Byte)
  /-- 94 `STY dp,X`, R245 -/
  | styDpX (o : Byte)
  /-- 95 `STA dp,X`, R243 -/
  | staDpX (o : Byte)
  /-- 96 `STX dp,Y`, R244 -/
  | stxDpY (o : Byte)
  /-- 97 `STA [dp],Y`, R243 -/
  | staDpIndLongY (o : Byte)
  /-- 99 `STA addr,Y`, R243 -/
  | staAbsY (a : Word)
  /-- 9C `STZ addr`, R246 -/
  | stzAbs (a : Word)
  /-- 9D `STA addr,X`, R243 -/
  | staAbsX (a : Word)
  /-- 9E `STZ addr,X`, R246 -/
  | stzAbsX (a : Word)
  /-- 9F `STA long,X`, R243 -/
  | staLongX (a : Addr)
  /-- A0 `LDY #const`, R242 -/
  | ldyImm (v : Word)
  /-- A1 `LDA (dp,X)`, R240 -/
  | ldaDpXInd (o : Byte)
  /-- A2 `LDX #const`, R241 -/
  | ldxImm (v : Word)
  /-- A3 `LDA sr,S`, R240 -/
  | ldaSr (o : Byte)
  /-- A4 `LDY dp`, R242 -/
  | ldyDp (o : Byte)
  /-- A5 `LDA dp`, R240 -/
  | ldaDp (o : Byte)
  /-- A6 `LDX dp`, R241 -/
  | ldxDp (o : Byte)
  /-- A7 `LDA [dp]`, R240 -/
  | ldaDpIndLong (o : Byte)
  /-- A9 `LDA #const`, R240 -/
  | ldaImm (v : Word)
  /-- AC `LDY addr`, R242 -/
  | ldyAbs (a : Word)
  /-- AD `LDA addr`, R240 -/
  | ldaAbs (a : Word)
  /-- AE `LDX addr`, R241 -/
  | ldxAbs (a : Word)
  /-- AF `LDA long`, R240 -/
  | ldaLong (a : Addr)
  /-- B0 `BCS nearlabel`, R214 -/
  | bcs (disp : Byte)
  /-- B1 `LDA (dp),Y`, R240 -/
  | ldaDpIndY (o : Byte)
  /-- B2 `LDA (dp)`, R240 -/
  | ldaDpInd (o : Byte)
  /-- B3 `LDA (sr,S),Y`, R240 -/
  | ldaSrIndY (o : Byte)
  /-- B4 `LDY dp,X`, R242 -/
  | ldyDpX (o : Byte)
  /-- B5 `LDA dp,X`, R240 -/
  | ldaDpX (o : Byte)
  /-- B6 `LDX dp,Y`, R241 -/
  | ldxDpY (o : Byte)
  /-- B7 `LDA [dp],Y`, R240 -/
  | ldaDpIndLongY (o : Byte)
  /-- B9 `LDA addr,Y`, R240 -/
  | ldaAbsY (a : Word)
  /-- BC `LDY addr,X`, R242 -/
  | ldyAbsX (a : Word)
  /-- BD `LDA addr,X`, R240 -/
  | ldaAbsX (a : Word)
  /-- BE `LDX addr,Y`, R241 -/
  | ldxAbsY (a : Word)
  /-- BF `LDA long,X`, R240 -/
  | ldaLongX (a : Addr)
  /-- C0 `CPY #const`, R211 -/
  | cpyImm (v : Word)
  /-- C1 `CMP (dp,X)`, R209 -/
  | cmpDpXInd (o : Byte)
  /-- C2 `REP #const`, R207 -/
  | rep (v : Byte)
  /-- C3 `CMP sr,S`, R209 -/
  | cmpSr (o : Byte)
  /-- C4 `CPY dp`, R211 -/
  | cpyDp (o : Byte)
  /-- C5 `CMP dp`, R209 -/
  | cmpDp (o : Byte)
  /-- C6 `DEC dp`, R163 -/
  | decDp (o : Byte)
  /-- C7 `CMP [dp]`, R209 -/
  | cmpDpIndLong (o : Byte)
  /-- C9 `CMP #const`, R209 -/
  | cmpImm (v : Word)
  /-- CC `CPY addr`, R211 -/
  | cpyAbs (a : Word)
  /-- CD `CMP addr`, R209 -/
  | cmpAbs (a : Word)
  /-- CE `DEC addr`, R163 -/
  | decAbs (a : Word)
  /-- CF `CMP long`, R209 -/
  | cmpLong (a : Addr)
  /-- D0 `BNE nearlabel`, R216 -/
  | bne (disp : Byte)
  /-- D1 `CMP (dp),Y`, R209 -/
  | cmpDpIndY (o : Byte)
  /-- D2 `CMP (dp)`, R209 -/
  | cmpDpInd (o : Byte)
  /-- D3 `CMP (sr,S),Y`, R209 -/
  | cmpSrIndY (o : Byte)
  /-- D4 `PEI (dp)`, R278 -/
  | pei (o : Byte)
  /-- D5 `CMP dp,X`, R209 -/
  | cmpDpX (o : Byte)
  /-- D6 `DEC dp,X`, R163 -/
  | decDpX (o : Byte)
  /-- D7 `CMP [dp],Y`, R209 -/
  | cmpDpIndLongY (o : Byte)
  /-- D9 `CMP addr,Y`, R209 -/
  | cmpAbsY (a : Word)
  /-- DC `JMP [addr]`, R221 -/
  | jmpIndLong (a : Word)
  /-- DD `CMP addr,X`, R209 -/
  | cmpAbsX (a : Word)
  /-- DE `DEC addr,X`, R163 -/
  | decAbsX (a : Word)
  /-- DF `CMP long,X`, R209 -/
  | cmpLongX (a : Addr)
  /-- E0 `CPX #const`, R210 -/
  | cpxImm (v : Word)
  /-- E1 `SBC (dp,X)`, R169 -/
  | sbcDpXInd (o : Byte)
  /-- E2 `SEP #const`, R208 -/
  | sep (v : Byte)
  /-- E3 `SBC sr,S`, R169 -/
  | sbcSr (o : Byte)
  /-- E4 `CPX dp`, R210 -/
  | cpxDp (o : Byte)
  /-- E5 `SBC dp`, R169 -/
  | sbcDp (o : Byte)
  /-- E6 `INC dp`, R166 -/
  | incDp (o : Byte)
  /-- E7 `SBC [dp]`, R169 -/
  | sbcDpIndLong (o : Byte)
  /-- E9 `SBC #const`, R169 -/
  | sbcImm (v : Word)
  /-- EC `CPX addr`, R210 -/
  | cpxAbs (a : Word)
  /-- ED `SBC addr`, R169 -/
  | sbcAbs (a : Word)
  /-- EE `INC addr`, R166 -/
  | incAbs (a : Word)
  /-- EF `SBC long`, R169 -/
  | sbcLong (a : Addr)
  /-- F0 `BEQ nearlabel`, R215 -/
  | beq (disp : Byte)
  /-- F1 `SBC (dp),Y`, R169 -/
  | sbcDpIndY (o : Byte)
  /-- F2 `SBC (dp)`, R169 -/
  | sbcDpInd (o : Byte)
  /-- F3 `SBC (sr,S),Y`, R169 -/
  | sbcSrIndY (o : Byte)
  /-- F4 `PEA addr`, R277 -/
  | pea (v : Word)
  /-- F5 `SBC dp,X`, R169 -/
  | sbcDpX (o : Byte)
  /-- F6 `INC dp,X`, R166 -/
  | incDpX (o : Byte)
  /-- F7 `SBC [dp],Y`, R169 -/
  | sbcDpIndLongY (o : Byte)
  /-- F9 `SBC addr,Y`, R169 -/
  | sbcAbsY (a : Word)
  /-- FC `JSR (addr,X)`, R224 -/
  | jsrXInd (a : Word)
  /-- FD `SBC addr,X`, R169 -/
  | sbcAbsX (a : Word)
  /-- FE `INC addr,X`, R166 -/
  | incAbsX (a : Word)
  /-- FF `SBC long,X`, R169 -/
  | sbcLongX (a : Addr)
  /-- 08 `PHP`, R284 -/
  | php
  /-- 0A `ASL A`, R185 -/
  | aslA
  /-- 0B `PHD`, R282 -/
  | phd
  /-- 18 `CLC`, R200 -/
  | clc
  /-- 1A `INC A`, R166 -/
  | incA
  /-- 1B `TCS`, R251 -/
  | tcs
  /-- 28 `PLP`, R274 -/
  | plp
  /-- 2A `ROL A`, R187 -/
  | rolA
  /-- 2B `PLD`, R273 -/
  | pld
  /-- 38 `SEC`, R201 -/
  | sec
  /-- 3A `DEC A`, R163 -/
  | decA
  /-- 3B `TSC`, R253 -/
  | tsc
  /-- 40 `RTI`, R302 -/
  | rti
  /-- 48 `PHA`, R280 -/
  | pha
  /-- 4A `LSR A`, R186 -/
  | lsrA
  /-- 4B `PHK`, R283 -/
  | phk
  /-- 58 `CLI`, R204 -/
  | cli
  /-- 5A `PHY`, R286 -/
  | phy
  /-- 5B `TCD`, R250 -/
  | tcd
  /-- 60 `RTS`, R225 -/
  | rts
  /-- 68 `PLA`, R271 -/
  | pla
  /-- 6A `ROR A`, R188 -/
  | rorA
  /-- 6B `RTL`, R227 -/
  | rtl
  /-- 78 `SEI`, R205 -/
  | sei
  /-- 7A `PLY`, R276 -/
  | ply
  /-- 7B `TDC`, R252 -/
  | tdc
  /-- 88 `DEY`, R165 -/
  | dey
  /-- 8A `TXA`, R255 -/
  | txa
  /-- 8B `PHB`, R281 -/
  | phb
  /-- 98 `TYA`, R258 -/
  | tya
  /-- 9A `TXS`, R256 -/
  | txs
  /-- 9B `TXY`, R257 -/
  | txy
  /-- A8 `TAY`, R249 -/
  | tay
  /-- AA `TAX`, R248 -/
  | tax
  /-- AB `PLB`, R272 -/
  | plb
  /-- B8 `CLV`, R206 -/
  | clv
  /-- BA `TSX`, R254 -/
  | tsx
  /-- BB `TYX`, R259 -/
  | tyx
  /-- C8 `INY`, R168 -/
  | iny
  /-- CA `DEX`, R164 -/
  | dex
  /-- CB `WAI`, R303 -/
  | wai
  /-- D8 `CLD`, R202 -/
  | cld
  /-- DA `PHX`, R285 -/
  | phx
  /-- DB `STP`, R315 -/
  | stp
  /-- E8 `INX`, R167 -/
  | inx
  /-- EA `NOP`, R313 -/
  | nop
  /-- EB `XBA`, R260 -/
  | xba
  /-- F8 `SED`, R203 -/
  | sed
  /-- FA `PLX`, R275 -/
  | plx
  /-- FB `XCE`, R312 -/
  | xce
  deriving DecidableEq, Repr

end Sys2Proof
end

