-- ==== Sys2Proof/Machine/Dispatch.lean ====
section
/-! DEFINITION. The meaning of each instruction, one arm per row of spec/opcode_table.json. -/

namespace Sys2Proof.Machine

def exec (i : Instr) (s : State) : Host.Outcome State Fault Refusal :=
  match i with
  | .brk sig => Sys2Proof.Machine.execBrk sig s
  | .oraDpXInd o => Sys2Proof.Machine.execOraDpXInd o s
  | .cop sig => Sys2Proof.Machine.execCop sig s
  | .oraSr o => Sys2Proof.Machine.execOraSr o s
  | .tsbDp o => Sys2Proof.Machine.execTsbDp o s
  | .oraDp o => Sys2Proof.Machine.execOraDp o s
  | .aslDp o => Sys2Proof.Machine.execAslDp o s
  | .oraDpIndLong o => Sys2Proof.Machine.execOraDpIndLong o s
  | .php => Sys2Proof.Machine.execPhp s
  | .oraImm v => Sys2Proof.Machine.execOraImm v s
  | .aslA => Sys2Proof.Machine.execAslA s
  | .phd => Sys2Proof.Machine.execPhd s
  | .tsbAbs a => Sys2Proof.Machine.execTsbAbs a s
  | .oraAbs a => Sys2Proof.Machine.execOraAbs a s
  | .aslAbs a => Sys2Proof.Machine.execAslAbs a s
  | .oraLong a => Sys2Proof.Machine.execOraLong a s
  | .bpl disp => Sys2Proof.Machine.execBpl disp s
  | .oraDpIndY o => Sys2Proof.Machine.execOraDpIndY o s
  | .oraDpInd o => Sys2Proof.Machine.execOraDpInd o s
  | .oraSrIndY o => Sys2Proof.Machine.execOraSrIndY o s
  | .trbDp o => Sys2Proof.Machine.execTrbDp o s
  | .oraDpX o => Sys2Proof.Machine.execOraDpX o s
  | .aslDpX o => Sys2Proof.Machine.execAslDpX o s
  | .oraDpIndLongY o => Sys2Proof.Machine.execOraDpIndLongY o s
  | .clc => Sys2Proof.Machine.execClc s
  | .oraAbsY a => Sys2Proof.Machine.execOraAbsY a s
  | .incA => Sys2Proof.Machine.execIncA s
  | .tcs => Sys2Proof.Machine.execTcs s
  | .trbAbs a => Sys2Proof.Machine.execTrbAbs a s
  | .oraAbsX a => Sys2Proof.Machine.execOraAbsX a s
  | .aslAbsX a => Sys2Proof.Machine.execAslAbsX a s
  | .oraLongX a => Sys2Proof.Machine.execOraLongX a s
  | .jsrAbs a => Sys2Proof.Machine.execJsrAbs a s
  | .andDpXInd o => Sys2Proof.Machine.execAndDpXInd o s
  | .jsl a => Sys2Proof.Machine.execJsl a s
  | .andSr o => Sys2Proof.Machine.execAndSr o s
  | .bitDp o => Sys2Proof.Machine.execBitDp o s
  | .andDp o => Sys2Proof.Machine.execAndDp o s
  | .rolDp o => Sys2Proof.Machine.execRolDp o s
  | .andDpIndLong o => Sys2Proof.Machine.execAndDpIndLong o s
  | .plp => Sys2Proof.Machine.execPlp s
  | .andImm v => Sys2Proof.Machine.execAndImm v s
  | .rolA => Sys2Proof.Machine.execRolA s
  | .pld => Sys2Proof.Machine.execPld s
  | .bitAbs a => Sys2Proof.Machine.execBitAbs a s
  | .andAbs a => Sys2Proof.Machine.execAndAbs a s
  | .rolAbs a => Sys2Proof.Machine.execRolAbs a s
  | .andLong a => Sys2Proof.Machine.execAndLong a s
  | .bmi disp => Sys2Proof.Machine.execBmi disp s
  | .andDpIndY o => Sys2Proof.Machine.execAndDpIndY o s
  | .andDpInd o => Sys2Proof.Machine.execAndDpInd o s
  | .andSrIndY o => Sys2Proof.Machine.execAndSrIndY o s
  | .bitDpX o => Sys2Proof.Machine.execBitDpX o s
  | .andDpX o => Sys2Proof.Machine.execAndDpX o s
  | .rolDpX o => Sys2Proof.Machine.execRolDpX o s
  | .andDpIndLongY o => Sys2Proof.Machine.execAndDpIndLongY o s
  | .sec => Sys2Proof.Machine.execSec s
  | .andAbsY a => Sys2Proof.Machine.execAndAbsY a s
  | .decA => Sys2Proof.Machine.execDecA s
  | .tsc => Sys2Proof.Machine.execTsc s
  | .bitAbsX a => Sys2Proof.Machine.execBitAbsX a s
  | .andAbsX a => Sys2Proof.Machine.execAndAbsX a s
  | .rolAbsX a => Sys2Proof.Machine.execRolAbsX a s
  | .andLongX a => Sys2Proof.Machine.execAndLongX a s
  | .rti => Sys2Proof.Machine.execRti s
  | .eorDpXInd o => Sys2Proof.Machine.execEorDpXInd o s
  | .wdm b => Sys2Proof.Machine.execWdm b s
  | .eorSr o => Sys2Proof.Machine.execEorSr o s
  | .mvp b1 b2 => Sys2Proof.Machine.execMvp b1 b2 s
  | .eorDp o => Sys2Proof.Machine.execEorDp o s
  | .lsrDp o => Sys2Proof.Machine.execLsrDp o s
  | .eorDpIndLong o => Sys2Proof.Machine.execEorDpIndLong o s
  | .pha => Sys2Proof.Machine.execPha s
  | .eorImm v => Sys2Proof.Machine.execEorImm v s
  | .lsrA => Sys2Proof.Machine.execLsrA s
  | .phk => Sys2Proof.Machine.execPhk s
  | .jmpAbs a => Sys2Proof.Machine.execJmpAbs a s
  | .eorAbs a => Sys2Proof.Machine.execEorAbs a s
  | .lsrAbs a => Sys2Proof.Machine.execLsrAbs a s
  | .eorLong a => Sys2Proof.Machine.execEorLong a s
  | .bvc disp => Sys2Proof.Machine.execBvc disp s
  | .eorDpIndY o => Sys2Proof.Machine.execEorDpIndY o s
  | .eorDpInd o => Sys2Proof.Machine.execEorDpInd o s
  | .eorSrIndY o => Sys2Proof.Machine.execEorSrIndY o s
  | .mvn b1 b2 => Sys2Proof.Machine.execMvn b1 b2 s
  | .eorDpX o => Sys2Proof.Machine.execEorDpX o s
  | .lsrDpX o => Sys2Proof.Machine.execLsrDpX o s
  | .eorDpIndLongY o => Sys2Proof.Machine.execEorDpIndLongY o s
  | .cli => Sys2Proof.Machine.execCli s
  | .eorAbsY a => Sys2Proof.Machine.execEorAbsY a s
  | .phy => Sys2Proof.Machine.execPhy s
  | .tcd => Sys2Proof.Machine.execTcd s
  | .jmpLong a => Sys2Proof.Machine.execJmpLong a s
  | .eorAbsX a => Sys2Proof.Machine.execEorAbsX a s
  | .lsrAbsX a => Sys2Proof.Machine.execLsrAbsX a s
  | .eorLongX a => Sys2Proof.Machine.execEorLongX a s
  | .rts => Sys2Proof.Machine.execRts s
  | .adcDpXInd o => Sys2Proof.Machine.execAdcDpXInd o s
  | .per disp => Sys2Proof.Machine.execPer disp s
  | .adcSr o => Sys2Proof.Machine.execAdcSr o s
  | .stzDp o => Sys2Proof.Machine.execStzDp o s
  | .adcDp o => Sys2Proof.Machine.execAdcDp o s
  | .rorDp o => Sys2Proof.Machine.execRorDp o s
  | .adcDpIndLong o => Sys2Proof.Machine.execAdcDpIndLong o s
  | .pla => Sys2Proof.Machine.execPla s
  | .adcImm v => Sys2Proof.Machine.execAdcImm v s
  | .rorA => Sys2Proof.Machine.execRorA s
  | .rtl => Sys2Proof.Machine.execRtl s
  | .jmpInd a => Sys2Proof.Machine.execJmpInd a s
  | .adcAbs a => Sys2Proof.Machine.execAdcAbs a s
  | .rorAbs a => Sys2Proof.Machine.execRorAbs a s
  | .adcLong a => Sys2Proof.Machine.execAdcLong a s
  | .bvs disp => Sys2Proof.Machine.execBvs disp s
  | .adcDpIndY o => Sys2Proof.Machine.execAdcDpIndY o s
  | .adcDpInd o => Sys2Proof.Machine.execAdcDpInd o s
  | .adcSrIndY o => Sys2Proof.Machine.execAdcSrIndY o s
  | .stzDpX o => Sys2Proof.Machine.execStzDpX o s
  | .adcDpX o => Sys2Proof.Machine.execAdcDpX o s
  | .rorDpX o => Sys2Proof.Machine.execRorDpX o s
  | .adcDpIndLongY o => Sys2Proof.Machine.execAdcDpIndLongY o s
  | .sei => Sys2Proof.Machine.execSei s
  | .adcAbsY a => Sys2Proof.Machine.execAdcAbsY a s
  | .ply => Sys2Proof.Machine.execPly s
  | .tdc => Sys2Proof.Machine.execTdc s
  | .jmpXInd a => Sys2Proof.Machine.execJmpXInd a s
  | .adcAbsX a => Sys2Proof.Machine.execAdcAbsX a s
  | .rorAbsX a => Sys2Proof.Machine.execRorAbsX a s
  | .adcLongX a => Sys2Proof.Machine.execAdcLongX a s
  | .bra disp => Sys2Proof.Machine.execBra disp s
  | .staDpXInd o => Sys2Proof.Machine.execStaDpXInd o s
  | .brl disp => Sys2Proof.Machine.execBrl disp s
  | .staSr o => Sys2Proof.Machine.execStaSr o s
  | .styDp o => Sys2Proof.Machine.execStyDp o s
  | .staDp o => Sys2Proof.Machine.execStaDp o s
  | .stxDp o => Sys2Proof.Machine.execStxDp o s
  | .staDpIndLong o => Sys2Proof.Machine.execStaDpIndLong o s
  | .dey => Sys2Proof.Machine.execDey s
  | .bitImm v => Sys2Proof.Machine.execBitImm v s
  | .txa => Sys2Proof.Machine.execTxa s
  | .phb => Sys2Proof.Machine.execPhb s
  | .styAbs a => Sys2Proof.Machine.execStyAbs a s
  | .staAbs a => Sys2Proof.Machine.execStaAbs a s
  | .stxAbs a => Sys2Proof.Machine.execStxAbs a s
  | .staLong a => Sys2Proof.Machine.execStaLong a s
  | .bcc disp => Sys2Proof.Machine.execBcc disp s
  | .staDpIndY o => Sys2Proof.Machine.execStaDpIndY o s
  | .staDpInd o => Sys2Proof.Machine.execStaDpInd o s
  | .staSrIndY o => Sys2Proof.Machine.execStaSrIndY o s
  | .styDpX o => Sys2Proof.Machine.execStyDpX o s
  | .staDpX o => Sys2Proof.Machine.execStaDpX o s
  | .stxDpY o => Sys2Proof.Machine.execStxDpY o s
  | .staDpIndLongY o => Sys2Proof.Machine.execStaDpIndLongY o s
  | .tya => Sys2Proof.Machine.execTya s
  | .staAbsY a => Sys2Proof.Machine.execStaAbsY a s
  | .txs => Sys2Proof.Machine.execTxs s
  | .txy => Sys2Proof.Machine.execTxy s
  | .stzAbs a => Sys2Proof.Machine.execStzAbs a s
  | .staAbsX a => Sys2Proof.Machine.execStaAbsX a s
  | .stzAbsX a => Sys2Proof.Machine.execStzAbsX a s
  | .staLongX a => Sys2Proof.Machine.execStaLongX a s
  | .ldyImm v => Sys2Proof.Machine.execLdyImm v s
  | .ldaDpXInd o => Sys2Proof.Machine.execLdaDpXInd o s
  | .ldxImm v => Sys2Proof.Machine.execLdxImm v s
  | .ldaSr o => Sys2Proof.Machine.execLdaSr o s
  | .ldyDp o => Sys2Proof.Machine.execLdyDp o s
  | .ldaDp o => Sys2Proof.Machine.execLdaDp o s
  | .ldxDp o => Sys2Proof.Machine.execLdxDp o s
  | .ldaDpIndLong o => Sys2Proof.Machine.execLdaDpIndLong o s
  | .tay => Sys2Proof.Machine.execTay s
  | .ldaImm v => Sys2Proof.Machine.execLdaImm v s
  | .tax => Sys2Proof.Machine.execTax s
  | .plb => Sys2Proof.Machine.execPlb s
  | .ldyAbs a => Sys2Proof.Machine.execLdyAbs a s
  | .ldaAbs a => Sys2Proof.Machine.execLdaAbs a s
  | .ldxAbs a => Sys2Proof.Machine.execLdxAbs a s
  | .ldaLong a => Sys2Proof.Machine.execLdaLong a s
  | .bcs disp => Sys2Proof.Machine.execBcs disp s
  | .ldaDpIndY o => Sys2Proof.Machine.execLdaDpIndY o s
  | .ldaDpInd o => Sys2Proof.Machine.execLdaDpInd o s
  | .ldaSrIndY o => Sys2Proof.Machine.execLdaSrIndY o s
  | .ldyDpX o => Sys2Proof.Machine.execLdyDpX o s
  | .ldaDpX o => Sys2Proof.Machine.execLdaDpX o s
  | .ldxDpY o => Sys2Proof.Machine.execLdxDpY o s
  | .ldaDpIndLongY o => Sys2Proof.Machine.execLdaDpIndLongY o s
  | .clv => Sys2Proof.Machine.execClv s
  | .ldaAbsY a => Sys2Proof.Machine.execLdaAbsY a s
  | .tsx => Sys2Proof.Machine.execTsx s
  | .tyx => Sys2Proof.Machine.execTyx s
  | .ldyAbsX a => Sys2Proof.Machine.execLdyAbsX a s
  | .ldaAbsX a => Sys2Proof.Machine.execLdaAbsX a s
  | .ldxAbsY a => Sys2Proof.Machine.execLdxAbsY a s
  | .ldaLongX a => Sys2Proof.Machine.execLdaLongX a s
  | .cpyImm v => Sys2Proof.Machine.execCpyImm v s
  | .cmpDpXInd o => Sys2Proof.Machine.execCmpDpXInd o s
  | .rep v => Sys2Proof.Machine.execRep v s
  | .cmpSr o => Sys2Proof.Machine.execCmpSr o s
  | .cpyDp o => Sys2Proof.Machine.execCpyDp o s
  | .cmpDp o => Sys2Proof.Machine.execCmpDp o s
  | .decDp o => Sys2Proof.Machine.execDecDp o s
  | .cmpDpIndLong o => Sys2Proof.Machine.execCmpDpIndLong o s
  | .iny => Sys2Proof.Machine.execIny s
  | .cmpImm v => Sys2Proof.Machine.execCmpImm v s
  | .dex => Sys2Proof.Machine.execDex s
  | .wai => Sys2Proof.Machine.execWai s
  | .cpyAbs a => Sys2Proof.Machine.execCpyAbs a s
  | .cmpAbs a => Sys2Proof.Machine.execCmpAbs a s
  | .decAbs a => Sys2Proof.Machine.execDecAbs a s
  | .cmpLong a => Sys2Proof.Machine.execCmpLong a s
  | .bne disp => Sys2Proof.Machine.execBne disp s
  | .cmpDpIndY o => Sys2Proof.Machine.execCmpDpIndY o s
  | .cmpDpInd o => Sys2Proof.Machine.execCmpDpInd o s
  | .cmpSrIndY o => Sys2Proof.Machine.execCmpSrIndY o s
  | .pei o => Sys2Proof.Machine.execPei o s
  | .cmpDpX o => Sys2Proof.Machine.execCmpDpX o s
  | .decDpX o => Sys2Proof.Machine.execDecDpX o s
  | .cmpDpIndLongY o => Sys2Proof.Machine.execCmpDpIndLongY o s
  | .cld => Sys2Proof.Machine.execCld s
  | .cmpAbsY a => Sys2Proof.Machine.execCmpAbsY a s
  | .phx => Sys2Proof.Machine.execPhx s
  | .stp => Sys2Proof.Machine.execStp s
  | .jmpIndLong a => Sys2Proof.Machine.execJmpIndLong a s
  | .cmpAbsX a => Sys2Proof.Machine.execCmpAbsX a s
  | .decAbsX a => Sys2Proof.Machine.execDecAbsX a s
  | .cmpLongX a => Sys2Proof.Machine.execCmpLongX a s
  | .cpxImm v => Sys2Proof.Machine.execCpxImm v s
  | .sbcDpXInd o => Sys2Proof.Machine.execSbcDpXInd o s
  | .sep v => Sys2Proof.Machine.execSep v s
  | .sbcSr o => Sys2Proof.Machine.execSbcSr o s
  | .cpxDp o => Sys2Proof.Machine.execCpxDp o s
  | .sbcDp o => Sys2Proof.Machine.execSbcDp o s
  | .incDp o => Sys2Proof.Machine.execIncDp o s
  | .sbcDpIndLong o => Sys2Proof.Machine.execSbcDpIndLong o s
  | .inx => Sys2Proof.Machine.execInx s
  | .sbcImm v => Sys2Proof.Machine.execSbcImm v s
  | .nop => Sys2Proof.Machine.execNop s
  | .xba => Sys2Proof.Machine.execXba s
  | .cpxAbs a => Sys2Proof.Machine.execCpxAbs a s
  | .sbcAbs a => Sys2Proof.Machine.execSbcAbs a s
  | .incAbs a => Sys2Proof.Machine.execIncAbs a s
  | .sbcLong a => Sys2Proof.Machine.execSbcLong a s
  | .beq disp => Sys2Proof.Machine.execBeq disp s
  | .sbcDpIndY o => Sys2Proof.Machine.execSbcDpIndY o s
  | .sbcDpInd o => Sys2Proof.Machine.execSbcDpInd o s
  | .sbcSrIndY o => Sys2Proof.Machine.execSbcSrIndY o s
  | .pea v => Sys2Proof.Machine.execPea v s
  | .sbcDpX o => Sys2Proof.Machine.execSbcDpX o s
  | .incDpX o => Sys2Proof.Machine.execIncDpX o s
  | .sbcDpIndLongY o => Sys2Proof.Machine.execSbcDpIndLongY o s
  | .sed => Sys2Proof.Machine.execSed s
  | .sbcAbsY a => Sys2Proof.Machine.execSbcAbsY a s
  | .plx => Sys2Proof.Machine.execPlx s
  | .xce => Sys2Proof.Machine.execXce s
  | .jsrXInd a => Sys2Proof.Machine.execJsrXInd a s
  | .sbcAbsX a => Sys2Proof.Machine.execSbcAbsX a s
  | .incAbsX a => Sys2Proof.Machine.execIncAbsX a s
  | .sbcLongX a => Sys2Proof.Machine.execSbcLongX a s

end Sys2Proof.Machine
end

