-- ==== Sys2Proof/Decode.lean ====
section
/-! DEFINITION. The decoder, from the bytes of an instruction to the instruction (30_encoding.md R90 to R100), total on any bytes
and rejecting by name, and the encoder. An instruction's bytes are b0 (the opcode), b1, b2, b3 in address order. -/

namespace Sys2Proof

/-- The four bytes a decoder may look at, in address order from the opcode on. -/
structure Window where
  op : Byte
  b1 : Byte
  b2 : Byte
  b3 : Byte
  deriving DecidableEq, Repr

/-- Why bytes are no instruction. -/
inductive DecodeError where
  /-- the variant does not have the opcode (R106) -/
  | unavailable (opcode : Byte)
  /-- the bytes end before the instruction does -/
  | truncated
  deriving DecidableEq, Repr

/-- `op16` (R93): b1 is the low byte. -/
def op16 (b1 b2 : Byte) : Word := b2 ++ b1

/-- `op24` (R93): b3 is the bank. -/
def op24 (b1 b2 b3 : Byte) : Addr := (b3 ++ b2) ++ b1

/-- `imm(w)` (R93): one byte at 8 bits, two at 16. -/
def immOperand (w : Width) (b1 b2 : Byte) : Word :=
  match w with
  | .w8 => op16 b1 0x00#8
  | .w16 => op16 b1 b2

/-- The opcodes 00 to 0F (R100), by low digit. -/
def decodeRow0 (wm _wx : Width) (b1 b2 b3 : Byte) : Nat → Instr
  | 0 => .brk b1
  | 1 => .oraDpXInd b1
  | 2 => .cop b1
  | 3 => .oraSr b1
  | 4 => .tsbDp b1
  | 5 => .oraDp b1
  | 6 => .aslDp b1
  | 7 => .oraDpIndLong b1
  | 8 => .php
  | 9 => .oraImm (immOperand wm b1 b2)
  | 10 => .aslA
  | 11 => .phd
  | 12 => .tsbAbs (op16 b1 b2)
  | 13 => .oraAbs (op16 b1 b2)
  | 14 => .aslAbs (op16 b1 b2)
  | _ => .oraLong (op24 b1 b2 b3)

/-- The opcodes 10 to 1F (R100), by low digit. -/
def decodeRow1 (_wm _wx : Width) (b1 b2 b3 : Byte) : Nat → Instr
  | 0 => .bpl b1
  | 1 => .oraDpIndY b1
  | 2 => .oraDpInd b1
  | 3 => .oraSrIndY b1
  | 4 => .trbDp b1
  | 5 => .oraDpX b1
  | 6 => .aslDpX b1
  | 7 => .oraDpIndLongY b1
  | 8 => .clc
  | 9 => .oraAbsY (op16 b1 b2)
  | 10 => .incA
  | 11 => .tcs
  | 12 => .trbAbs (op16 b1 b2)
  | 13 => .oraAbsX (op16 b1 b2)
  | 14 => .aslAbsX (op16 b1 b2)
  | _ => .oraLongX (op24 b1 b2 b3)

/-- The opcodes 20 to 2F (R100), by low digit. -/
def decodeRow2 (wm _wx : Width) (b1 b2 b3 : Byte) : Nat → Instr
  | 0 => .jsrAbs (op16 b1 b2)
  | 1 => .andDpXInd b1
  | 2 => .jsl (op24 b1 b2 b3)
  | 3 => .andSr b1
  | 4 => .bitDp b1
  | 5 => .andDp b1
  | 6 => .rolDp b1
  | 7 => .andDpIndLong b1
  | 8 => .plp
  | 9 => .andImm (immOperand wm b1 b2)
  | 10 => .rolA
  | 11 => .pld
  | 12 => .bitAbs (op16 b1 b2)
  | 13 => .andAbs (op16 b1 b2)
  | 14 => .rolAbs (op16 b1 b2)
  | _ => .andLong (op24 b1 b2 b3)

/-- The opcodes 30 to 3F (R100), by low digit. -/
def decodeRow3 (_wm _wx : Width) (b1 b2 b3 : Byte) : Nat → Instr
  | 0 => .bmi b1
  | 1 => .andDpIndY b1
  | 2 => .andDpInd b1
  | 3 => .andSrIndY b1
  | 4 => .bitDpX b1
  | 5 => .andDpX b1
  | 6 => .rolDpX b1
  | 7 => .andDpIndLongY b1
  | 8 => .sec
  | 9 => .andAbsY (op16 b1 b2)
  | 10 => .decA
  | 11 => .tsc
  | 12 => .bitAbsX (op16 b1 b2)
  | 13 => .andAbsX (op16 b1 b2)
  | 14 => .rolAbsX (op16 b1 b2)
  | _ => .andLongX (op24 b1 b2 b3)

/-- The opcodes 40 to 4F (R100), by low digit. -/
def decodeRow4 (wm _wx : Width) (b1 b2 b3 : Byte) : Nat → Instr
  | 0 => .rti
  | 1 => .eorDpXInd b1
  | 2 => .wdm b1
  | 3 => .eorSr b1
  | 4 => .mvp b1 b2
  | 5 => .eorDp b1
  | 6 => .lsrDp b1
  | 7 => .eorDpIndLong b1
  | 8 => .pha
  | 9 => .eorImm (immOperand wm b1 b2)
  | 10 => .lsrA
  | 11 => .phk
  | 12 => .jmpAbs (op16 b1 b2)
  | 13 => .eorAbs (op16 b1 b2)
  | 14 => .lsrAbs (op16 b1 b2)
  | _ => .eorLong (op24 b1 b2 b3)

/-- The opcodes 50 to 5F (R100), by low digit. -/
def decodeRow5 (_wm _wx : Width) (b1 b2 b3 : Byte) : Nat → Instr
  | 0 => .bvc b1
  | 1 => .eorDpIndY b1
  | 2 => .eorDpInd b1
  | 3 => .eorSrIndY b1
  | 4 => .mvn b1 b2
  | 5 => .eorDpX b1
  | 6 => .lsrDpX b1
  | 7 => .eorDpIndLongY b1
  | 8 => .cli
  | 9 => .eorAbsY (op16 b1 b2)
  | 10 => .phy
  | 11 => .tcd
  | 12 => .jmpLong (op24 b1 b2 b3)
  | 13 => .eorAbsX (op16 b1 b2)
  | 14 => .lsrAbsX (op16 b1 b2)
  | _ => .eorLongX (op24 b1 b2 b3)

/-- The opcodes 60 to 6F (R100), by low digit. -/
def decodeRow6 (wm _wx : Width) (b1 b2 b3 : Byte) : Nat → Instr
  | 0 => .rts
  | 1 => .adcDpXInd b1
  | 2 => .per (op16 b1 b2)
  | 3 => .adcSr b1
  | 4 => .stzDp b1
  | 5 => .adcDp b1
  | 6 => .rorDp b1
  | 7 => .adcDpIndLong b1
  | 8 => .pla
  | 9 => .adcImm (immOperand wm b1 b2)
  | 10 => .rorA
  | 11 => .rtl
  | 12 => .jmpInd (op16 b1 b2)
  | 13 => .adcAbs (op16 b1 b2)
  | 14 => .rorAbs (op16 b1 b2)
  | _ => .adcLong (op24 b1 b2 b3)

/-- The opcodes 70 to 7F (R100), by low digit. -/
def decodeRow7 (_wm _wx : Width) (b1 b2 b3 : Byte) : Nat → Instr
  | 0 => .bvs b1
  | 1 => .adcDpIndY b1
  | 2 => .adcDpInd b1
  | 3 => .adcSrIndY b1
  | 4 => .stzDpX b1
  | 5 => .adcDpX b1
  | 6 => .rorDpX b1
  | 7 => .adcDpIndLongY b1
  | 8 => .sei
  | 9 => .adcAbsY (op16 b1 b2)
  | 10 => .ply
  | 11 => .tdc
  | 12 => .jmpXInd (op16 b1 b2)
  | 13 => .adcAbsX (op16 b1 b2)
  | 14 => .rorAbsX (op16 b1 b2)
  | _ => .adcLongX (op24 b1 b2 b3)

/-- The opcodes 80 to 8F (R100), by low digit. -/
def decodeRow8 (wm _wx : Width) (b1 b2 b3 : Byte) : Nat → Instr
  | 0 => .bra b1
  | 1 => .staDpXInd b1
  | 2 => .brl (op16 b1 b2)
  | 3 => .staSr b1
  | 4 => .styDp b1
  | 5 => .staDp b1
  | 6 => .stxDp b1
  | 7 => .staDpIndLong b1
  | 8 => .dey
  | 9 => .bitImm (immOperand wm b1 b2)
  | 10 => .txa
  | 11 => .phb
  | 12 => .styAbs (op16 b1 b2)
  | 13 => .staAbs (op16 b1 b2)
  | 14 => .stxAbs (op16 b1 b2)
  | _ => .staLong (op24 b1 b2 b3)

/-- The opcodes 90 to 9F (R100), by low digit. -/
def decodeRow9 (_wm _wx : Width) (b1 b2 b3 : Byte) : Nat → Instr
  | 0 => .bcc b1
  | 1 => .staDpIndY b1
  | 2 => .staDpInd b1
  | 3 => .staSrIndY b1
  | 4 => .styDpX b1
  | 5 => .staDpX b1
  | 6 => .stxDpY b1
  | 7 => .staDpIndLongY b1
  | 8 => .tya
  | 9 => .staAbsY (op16 b1 b2)
  | 10 => .txs
  | 11 => .txy
  | 12 => .stzAbs (op16 b1 b2)
  | 13 => .staAbsX (op16 b1 b2)
  | 14 => .stzAbsX (op16 b1 b2)
  | _ => .staLongX (op24 b1 b2 b3)

/-- The opcodes A0 to AF (R100), by low digit. -/
def decodeRowA (wm wx : Width) (b1 b2 b3 : Byte) : Nat → Instr
  | 0 => .ldyImm (immOperand wx b1 b2)
  | 1 => .ldaDpXInd b1
  | 2 => .ldxImm (immOperand wx b1 b2)
  | 3 => .ldaSr b1
  | 4 => .ldyDp b1
  | 5 => .ldaDp b1
  | 6 => .ldxDp b1
  | 7 => .ldaDpIndLong b1
  | 8 => .tay
  | 9 => .ldaImm (immOperand wm b1 b2)
  | 10 => .tax
  | 11 => .plb
  | 12 => .ldyAbs (op16 b1 b2)
  | 13 => .ldaAbs (op16 b1 b2)
  | 14 => .ldxAbs (op16 b1 b2)
  | _ => .ldaLong (op24 b1 b2 b3)

/-- The opcodes B0 to BF (R100), by low digit. -/
def decodeRowB (_wm _wx : Width) (b1 b2 b3 : Byte) : Nat → Instr
  | 0 => .bcs b1
  | 1 => .ldaDpIndY b1
  | 2 => .ldaDpInd b1
  | 3 => .ldaSrIndY b1
  | 4 => .ldyDpX b1
  | 5 => .ldaDpX b1
  | 6 => .ldxDpY b1
  | 7 => .ldaDpIndLongY b1
  | 8 => .clv
  | 9 => .ldaAbsY (op16 b1 b2)
  | 10 => .tsx
  | 11 => .tyx
  | 12 => .ldyAbsX (op16 b1 b2)
  | 13 => .ldaAbsX (op16 b1 b2)
  | 14 => .ldxAbsY (op16 b1 b2)
  | _ => .ldaLongX (op24 b1 b2 b3)

/-- The opcodes C0 to CF (R100), by low digit. -/
def decodeRowC (wm wx : Width) (b1 b2 b3 : Byte) : Nat → Instr
  | 0 => .cpyImm (immOperand wx b1 b2)
  | 1 => .cmpDpXInd b1
  | 2 => .rep b1
  | 3 => .cmpSr b1
  | 4 => .cpyDp b1
  | 5 => .cmpDp b1
  | 6 => .decDp b1
  | 7 => .cmpDpIndLong b1
  | 8 => .iny
  | 9 => .cmpImm (immOperand wm b1 b2)
  | 10 => .dex
  | 11 => .wai
  | 12 => .cpyAbs (op16 b1 b2)
  | 13 => .cmpAbs (op16 b1 b2)
  | 14 => .decAbs (op16 b1 b2)
  | _ => .cmpLong (op24 b1 b2 b3)

/-- The opcodes D0 to DF (R100), by low digit. -/
def decodeRowD (_wm _wx : Width) (b1 b2 b3 : Byte) : Nat → Instr
  | 0 => .bne b1
  | 1 => .cmpDpIndY b1
  | 2 => .cmpDpInd b1
  | 3 => .cmpSrIndY b1
  | 4 => .pei b1
  | 5 => .cmpDpX b1
  | 6 => .decDpX b1
  | 7 => .cmpDpIndLongY b1
  | 8 => .cld
  | 9 => .cmpAbsY (op16 b1 b2)
  | 10 => .phx
  | 11 => .stp
  | 12 => .jmpIndLong (op16 b1 b2)
  | 13 => .cmpAbsX (op16 b1 b2)
  | 14 => .decAbsX (op16 b1 b2)
  | _ => .cmpLongX (op24 b1 b2 b3)

/-- The opcodes E0 to EF (R100), by low digit. -/
def decodeRowE (wm wx : Width) (b1 b2 b3 : Byte) : Nat → Instr
  | 0 => .cpxImm (immOperand wx b1 b2)
  | 1 => .sbcDpXInd b1
  | 2 => .sep b1
  | 3 => .sbcSr b1
  | 4 => .cpxDp b1
  | 5 => .sbcDp b1
  | 6 => .incDp b1
  | 7 => .sbcDpIndLong b1
  | 8 => .inx
  | 9 => .sbcImm (immOperand wm b1 b2)
  | 10 => .nop
  | 11 => .xba
  | 12 => .cpxAbs (op16 b1 b2)
  | 13 => .sbcAbs (op16 b1 b2)
  | 14 => .incAbs (op16 b1 b2)
  | _ => .sbcLong (op24 b1 b2 b3)

/-- The opcodes F0 to FF (R100), by low digit. -/
def decodeRowF (_wm _wx : Width) (b1 b2 b3 : Byte) : Nat → Instr
  | 0 => .beq b1
  | 1 => .sbcDpIndY b1
  | 2 => .sbcDpInd b1
  | 3 => .sbcSrIndY b1
  | 4 => .pea (op16 b1 b2)
  | 5 => .sbcDpX b1
  | 6 => .incDpX b1
  | 7 => .sbcDpIndLongY b1
  | 8 => .sed
  | 9 => .sbcAbsY (op16 b1 b2)
  | 10 => .plx
  | 11 => .xce
  | 12 => .jsrXInd (op16 b1 b2)
  | 13 => .sbcAbsX (op16 b1 b2)
  | 14 => .incAbsX (op16 b1 b2)
  | _ => .sbcLongX (op24 b1 b2 b3)

/-- The instruction of a window at the widths in force: all 8 bits of the opcode select the row of R100. -/
def decodeInstr (wm wx : Width) (win : Window) : Instr :=
  match win.op.toNat / 16 with
  | 0 => decodeRow0 wm wx win.b1 win.b2 win.b3 (win.op.toNat % 16)
  | 1 => decodeRow1 wm wx win.b1 win.b2 win.b3 (win.op.toNat % 16)
  | 2 => decodeRow2 wm wx win.b1 win.b2 win.b3 (win.op.toNat % 16)
  | 3 => decodeRow3 wm wx win.b1 win.b2 win.b3 (win.op.toNat % 16)
  | 4 => decodeRow4 wm wx win.b1 win.b2 win.b3 (win.op.toNat % 16)
  | 5 => decodeRow5 wm wx win.b1 win.b2 win.b3 (win.op.toNat % 16)
  | 6 => decodeRow6 wm wx win.b1 win.b2 win.b3 (win.op.toNat % 16)
  | 7 => decodeRow7 wm wx win.b1 win.b2 win.b3 (win.op.toNat % 16)
  | 8 => decodeRow8 wm wx win.b1 win.b2 win.b3 (win.op.toNat % 16)
  | 9 => decodeRow9 wm wx win.b1 win.b2 win.b3 (win.op.toNat % 16)
  | 10 => decodeRowA wm wx win.b1 win.b2 win.b3 (win.op.toNat % 16)
  | 11 => decodeRowB wm wx win.b1 win.b2 win.b3 (win.op.toNat % 16)
  | 12 => decodeRowC wm wx win.b1 win.b2 win.b3 (win.op.toNat % 16)
  | 13 => decodeRowD wm wx win.b1 win.b2 win.b3 (win.op.toNat % 16)
  | 14 => decodeRowE wm wx win.b1 win.b2 win.b3 (win.op.toNat % 16)
  | _ => decodeRowF wm wx win.b1 win.b2 win.b3 (win.op.toNat % 16)

/-- The bytes column of R100, 16 opcodes a row; the 12 immediates of R95 at their 8-bit length. -/
def lengthTable : List (List Nat) :=
  [ [2, 2, 2, 2, 2, 2, 2, 2, 1, 2, 1, 1, 3, 3, 3, 4],
    [2, 2, 2, 2, 2, 2, 2, 2, 1, 3, 1, 1, 3, 3, 3, 4],
    [3, 2, 4, 2, 2, 2, 2, 2, 1, 2, 1, 1, 3, 3, 3, 4],
    [2, 2, 2, 2, 2, 2, 2, 2, 1, 3, 1, 1, 3, 3, 3, 4],
    [1, 2, 2, 2, 3, 2, 2, 2, 1, 2, 1, 1, 3, 3, 3, 4],
    [2, 2, 2, 2, 3, 2, 2, 2, 1, 3, 1, 1, 4, 3, 3, 4],
    [1, 2, 3, 2, 2, 2, 2, 2, 1, 2, 1, 1, 3, 3, 3, 4],
    [2, 2, 2, 2, 2, 2, 2, 2, 1, 3, 1, 1, 3, 3, 3, 4],
    [2, 2, 3, 2, 2, 2, 2, 2, 1, 2, 1, 1, 3, 3, 3, 4],
    [2, 2, 2, 2, 2, 2, 2, 2, 1, 3, 1, 1, 3, 3, 3, 4],
    [2, 2, 2, 2, 2, 2, 2, 2, 1, 2, 1, 1, 3, 3, 3, 4],
    [2, 2, 2, 2, 2, 2, 2, 2, 1, 3, 1, 1, 3, 3, 3, 4],
    [2, 2, 2, 2, 2, 2, 2, 2, 1, 2, 1, 1, 3, 3, 3, 4],
    [2, 2, 2, 2, 2, 2, 2, 2, 1, 3, 1, 1, 3, 3, 3, 4],
    [2, 2, 2, 2, 2, 2, 2, 2, 1, 2, 1, 1, 3, 3, 3, 4],
    [2, 2, 2, 2, 3, 2, 2, 2, 1, 3, 1, 1, 3, 3, 3, 4] ]

/-- The immediate opcodes of the accumulator width (R95). -/
def immMOpcodes : List Nat := [0x09, 0x29, 0x49, 0x69, 0x89, 0xA9, 0xC9, 0xE9]

/-- The immediate opcodes of the index width (R95). -/
def immXOpcodes : List Nat := [0xA0, 0xA2, 0xC0, 0xE0]

/-- The extra byte of an immediate at 16 bits (R95). -/
def extraByte (w : Width) : Nat :=
  match w with
  | .w8 => 0
  | .w16 => 1

/-- `len(opcode)` (R95). -/
def instrLength (wm wx : Width) (op : Byte) : Nat :=
  (lengthTable.getD (op.toNat / 16) []).getD (op.toNat % 16) 0 +
    (if immMOpcodes.contains op.toNat then extraByte wm
     else if immXOpcodes.contains op.toNat then extraByte wx else 0)

/-- The 27 opcodes the 65C02 adds (R97). -/
def added65C02 : List Nat :=
  [ 0x04, 0x0C, 0x12, 0x14, 0x1A, 0x1C, 0x32, 0x34, 0x3A, 0x3C, 0x52, 0x5A, 0x64, 0x72, 0x74, 0x7A, 0x7C, 0x80, 0x89,
    0x92, 0x9C, 0x9E, 0xB2, 0xD2, 0xDA, 0xF2, 0xFA ]

/-- The 65816-only opcodes outside the columns 3, 7, B and F, which are 65816 only throughout (R97, R100). -/
def only65816 : List Nat :=
  [ 0x02, 0x22, 0x42, 0x44, 0x54, 0x5C, 0x62, 0x82, 0xC2, 0xD4, 0xDC, 0xE2, 0xF4, 0xFC ]

/-- The opcode exists on the variant (R97). -/
def opcodeAvailable (v : Variant) (op : Byte) : Bool :=
  let is65816Only := op.toNat % 4 == 3 || only65816.contains op.toNat
  match v with
  | .m65816 => true
  | .m65C02 => !is65816Only
  | .m6502 => !is65816Only && !added65C02.contains op.toNat

/-- The decoder on a window: the instruction, or the refusal of R106 with the opcode. -/
def decodeWindow (v : Variant) (wm wx : Width) (win : Window) : Except DecodeError Instr :=
  if opcodeAvailable v win.op then .ok (decodeInstr wm wx win) else .error (.unavailable win.op)

/-- The decoder on a byte stream: the first instruction and the bytes after it. -/
def decode (v : Variant) (wm wx : Width) : List Byte → Except DecodeError (Instr × List Byte)
  | [] => .error .truncated
  | op :: rest =>
    if opcodeAvailable v op then
      if rest.length + 1 < instrLength wm wx op then .error .truncated
      else
        .ok (decodeInstr wm wx
              { op := op, b1 := rest.getD 0 0x00#8, b2 := rest.getD 1 0x00#8, b3 := rest.getD 2 0x00#8 },
            rest.drop (instrLength wm wx op - 1))
    else .error (.unavailable op)

/-- Byte k of a number laid out from its least significant byte on (R91). -/
def byteAt (w k : Nat) : Byte := BitVec.ofNat 8 (w / 256 ^ k)

/-- The window of the number `w` of `nbits` bits; the bits above are 0. -/
def windowOf (nbits w : Nat) : Window :=
  let v := w % 2 ^ nbits
  { op := byteAt v 0, b1 := byteAt v 1, b2 := byteAt v 2, b3 := byteAt v 3 }

/-- The instruction of a row of spec/opcode_table.json, whose bits are `w`, on a 65816 at the widths after reset (log 16). -/
def decodeTableWord (nbits w : Nat) : Option Instr :=
  match decodeWindow .m65816 .w8 .w8 (windowOf nbits w) with
  | .ok i => some i
  | .error _ => none

/-! ## The encoder -/

/-- The opcode column of R100. -/
def Instr.opcode : Instr → Byte
  | .brk _ => 0x00#8
  | .oraDpXInd _ => 0x01#8
  | .cop _ => 0x02#8
  | .oraSr _ => 0x03#8
  | .tsbDp _ => 0x04#8
  | .oraDp _ => 0x05#8
  | .aslDp _ => 0x06#8
  | .oraDpIndLong _ => 0x07#8
  | .php => 0x08#8
  | .oraImm _ => 0x09#8
  | .aslA => 0x0A#8
  | .phd => 0x0B#8
  | .tsbAbs _ => 0x0C#8
  | .oraAbs _ => 0x0D#8
  | .aslAbs _ => 0x0E#8
  | .oraLong _ => 0x0F#8
  | .bpl _ => 0x10#8
  | .oraDpIndY _ => 0x11#8
  | .oraDpInd _ => 0x12#8
  | .oraSrIndY _ => 0x13#8
  | .trbDp _ => 0x14#8
  | .oraDpX _ => 0x15#8
  | .aslDpX _ => 0x16#8
  | .oraDpIndLongY _ => 0x17#8
  | .clc => 0x18#8
  | .oraAbsY _ => 0x19#8
  | .incA => 0x1A#8
  | .tcs => 0x1B#8
  | .trbAbs _ => 0x1C#8
  | .oraAbsX _ => 0x1D#8
  | .aslAbsX _ => 0x1E#8
  | .oraLongX _ => 0x1F#8
  | .jsrAbs _ => 0x20#8
  | .andDpXInd _ => 0x21#8
  | .jsl _ => 0x22#8
  | .andSr _ => 0x23#8
  | .bitDp _ => 0x24#8
  | .andDp _ => 0x25#8
  | .rolDp _ => 0x26#8
  | .andDpIndLong _ => 0x27#8
  | .plp => 0x28#8
  | .andImm _ => 0x29#8
  | .rolA => 0x2A#8
  | .pld => 0x2B#8
  | .bitAbs _ => 0x2C#8
  | .andAbs _ => 0x2D#8
  | .rolAbs _ => 0x2E#8
  | .andLong _ => 0x2F#8
  | .bmi _ => 0x30#8
  | .andDpIndY _ => 0x31#8
  | .andDpInd _ => 0x32#8
  | .andSrIndY _ => 0x33#8
  | .bitDpX _ => 0x34#8
  | .andDpX _ => 0x35#8
  | .rolDpX _ => 0x36#8
  | .andDpIndLongY _ => 0x37#8
  | .sec => 0x38#8
  | .andAbsY _ => 0x39#8
  | .decA => 0x3A#8
  | .tsc => 0x3B#8
  | .bitAbsX _ => 0x3C#8
  | .andAbsX _ => 0x3D#8
  | .rolAbsX _ => 0x3E#8
  | .andLongX _ => 0x3F#8
  | .rti => 0x40#8
  | .eorDpXInd _ => 0x41#8
  | .wdm _ => 0x42#8
  | .eorSr _ => 0x43#8
  | .mvp _ _ => 0x44#8
  | .eorDp _ => 0x45#8
  | .lsrDp _ => 0x46#8
  | .eorDpIndLong _ => 0x47#8
  | .pha => 0x48#8
  | .eorImm _ => 0x49#8
  | .lsrA => 0x4A#8
  | .phk => 0x4B#8
  | .jmpAbs _ => 0x4C#8
  | .eorAbs _ => 0x4D#8
  | .lsrAbs _ => 0x4E#8
  | .eorLong _ => 0x4F#8
  | .bvc _ => 0x50#8
  | .eorDpIndY _ => 0x51#8
  | .eorDpInd _ => 0x52#8
  | .eorSrIndY _ => 0x53#8
  | .mvn _ _ => 0x54#8
  | .eorDpX _ => 0x55#8
  | .lsrDpX _ => 0x56#8
  | .eorDpIndLongY _ => 0x57#8
  | .cli => 0x58#8
  | .eorAbsY _ => 0x59#8
  | .phy => 0x5A#8
  | .tcd => 0x5B#8
  | .jmpLong _ => 0x5C#8
  | .eorAbsX _ => 0x5D#8
  | .lsrAbsX _ => 0x5E#8
  | .eorLongX _ => 0x5F#8
  | .rts => 0x60#8
  | .adcDpXInd _ => 0x61#8
  | .per _ => 0x62#8
  | .adcSr _ => 0x63#8
  | .stzDp _ => 0x64#8
  | .adcDp _ => 0x65#8
  | .rorDp _ => 0x66#8
  | .adcDpIndLong _ => 0x67#8
  | .pla => 0x68#8
  | .adcImm _ => 0x69#8
  | .rorA => 0x6A#8
  | .rtl => 0x6B#8
  | .jmpInd _ => 0x6C#8
  | .adcAbs _ => 0x6D#8
  | .rorAbs _ => 0x6E#8
  | .adcLong _ => 0x6F#8
  | .bvs _ => 0x70#8
  | .adcDpIndY _ => 0x71#8
  | .adcDpInd _ => 0x72#8
  | .adcSrIndY _ => 0x73#8
  | .stzDpX _ => 0x74#8
  | .adcDpX _ => 0x75#8
  | .rorDpX _ => 0x76#8
  | .adcDpIndLongY _ => 0x77#8
  | .sei => 0x78#8
  | .adcAbsY _ => 0x79#8
  | .ply => 0x7A#8
  | .tdc => 0x7B#8
  | .jmpXInd _ => 0x7C#8
  | .adcAbsX _ => 0x7D#8
  | .rorAbsX _ => 0x7E#8
  | .adcLongX _ => 0x7F#8
  | .bra _ => 0x80#8
  | .staDpXInd _ => 0x81#8
  | .brl _ => 0x82#8
  | .staSr _ => 0x83#8
  | .styDp _ => 0x84#8
  | .staDp _ => 0x85#8
  | .stxDp _ => 0x86#8
  | .staDpIndLong _ => 0x87#8
  | .dey => 0x88#8
  | .bitImm _ => 0x89#8
  | .txa => 0x8A#8
  | .phb => 0x8B#8
  | .styAbs _ => 0x8C#8
  | .staAbs _ => 0x8D#8
  | .stxAbs _ => 0x8E#8
  | .staLong _ => 0x8F#8
  | .bcc _ => 0x90#8
  | .staDpIndY _ => 0x91#8
  | .staDpInd _ => 0x92#8
  | .staSrIndY _ => 0x93#8
  | .styDpX _ => 0x94#8
  | .staDpX _ => 0x95#8
  | .stxDpY _ => 0x96#8
  | .staDpIndLongY _ => 0x97#8
  | .tya => 0x98#8
  | .staAbsY _ => 0x99#8
  | .txs => 0x9A#8
  | .txy => 0x9B#8
  | .stzAbs _ => 0x9C#8
  | .staAbsX _ => 0x9D#8
  | .stzAbsX _ => 0x9E#8
  | .staLongX _ => 0x9F#8
  | .ldyImm _ => 0xA0#8
  | .ldaDpXInd _ => 0xA1#8
  | .ldxImm _ => 0xA2#8
  | .ldaSr _ => 0xA3#8
  | .ldyDp _ => 0xA4#8
  | .ldaDp _ => 0xA5#8
  | .ldxDp _ => 0xA6#8
  | .ldaDpIndLong _ => 0xA7#8
  | .tay => 0xA8#8
  | .ldaImm _ => 0xA9#8
  | .tax => 0xAA#8
  | .plb => 0xAB#8
  | .ldyAbs _ => 0xAC#8
  | .ldaAbs _ => 0xAD#8
  | .ldxAbs _ => 0xAE#8
  | .ldaLong _ => 0xAF#8
  | .bcs _ => 0xB0#8
  | .ldaDpIndY _ => 0xB1#8
  | .ldaDpInd _ => 0xB2#8
  | .ldaSrIndY _ => 0xB3#8
  | .ldyDpX _ => 0xB4#8
  | .ldaDpX _ => 0xB5#8
  | .ldxDpY _ => 0xB6#8
  | .ldaDpIndLongY _ => 0xB7#8
  | .clv => 0xB8#8
  | .ldaAbsY _ => 0xB9#8
  | .tsx => 0xBA#8
  | .tyx => 0xBB#8
  | .ldyAbsX _ => 0xBC#8
  | .ldaAbsX _ => 0xBD#8
  | .ldxAbsY _ => 0xBE#8
  | .ldaLongX _ => 0xBF#8
  | .cpyImm _ => 0xC0#8
  | .cmpDpXInd _ => 0xC1#8
  | .rep _ => 0xC2#8
  | .cmpSr _ => 0xC3#8
  | .cpyDp _ => 0xC4#8
  | .cmpDp _ => 0xC5#8
  | .decDp _ => 0xC6#8
  | .cmpDpIndLong _ => 0xC7#8
  | .iny => 0xC8#8
  | .cmpImm _ => 0xC9#8
  | .dex => 0xCA#8
  | .wai => 0xCB#8
  | .cpyAbs _ => 0xCC#8
  | .cmpAbs _ => 0xCD#8
  | .decAbs _ => 0xCE#8
  | .cmpLong _ => 0xCF#8
  | .bne _ => 0xD0#8
  | .cmpDpIndY _ => 0xD1#8
  | .cmpDpInd _ => 0xD2#8
  | .cmpSrIndY _ => 0xD3#8
  | .pei _ => 0xD4#8
  | .cmpDpX _ => 0xD5#8
  | .decDpX _ => 0xD6#8
  | .cmpDpIndLongY _ => 0xD7#8
  | .cld => 0xD8#8
  | .cmpAbsY _ => 0xD9#8
  | .phx => 0xDA#8
  | .stp => 0xDB#8
  | .jmpIndLong _ => 0xDC#8
  | .cmpAbsX _ => 0xDD#8
  | .decAbsX _ => 0xDE#8
  | .cmpLongX _ => 0xDF#8
  | .cpxImm _ => 0xE0#8
  | .sbcDpXInd _ => 0xE1#8
  | .sep _ => 0xE2#8
  | .sbcSr _ => 0xE3#8
  | .cpxDp _ => 0xE4#8
  | .sbcDp _ => 0xE5#8
  | .incDp _ => 0xE6#8
  | .sbcDpIndLong _ => 0xE7#8
  | .inx => 0xE8#8
  | .sbcImm _ => 0xE9#8
  | .nop => 0xEA#8
  | .xba => 0xEB#8
  | .cpxAbs _ => 0xEC#8
  | .sbcAbs _ => 0xED#8
  | .incAbs _ => 0xEE#8
  | .sbcLong _ => 0xEF#8
  | .beq _ => 0xF0#8
  | .sbcDpIndY _ => 0xF1#8
  | .sbcDpInd _ => 0xF2#8
  | .sbcSrIndY _ => 0xF3#8
  | .pea _ => 0xF4#8
  | .sbcDpX _ => 0xF5#8
  | .incDpX _ => 0xF6#8
  | .sbcDpIndLongY _ => 0xF7#8
  | .sed => 0xF8#8
  | .sbcAbsY _ => 0xF9#8
  | .plx => 0xFA#8
  | .xce => 0xFB#8
  | .jsrXInd _ => 0xFC#8
  | .sbcAbsX _ => 0xFD#8
  | .incAbsX _ => 0xFE#8
  | .sbcLongX _ => 0xFF#8

/-- Low byte of an operand word. -/
def opLo (v : Word) : Byte := v.extractLsb' 0 8

/-- High byte of an operand word. -/
def opHi (v : Word) : Byte := v.extractLsb' 8 8

/-- A word operand, low byte first (R91). -/
def encode16 (v : Word) : List Byte := [opLo v, opHi v]

/-- A 24-bit operand, bank last (R91). -/
def encode24 (a : Addr) : List Byte := [a.extractLsb' 0 8, a.extractLsb' 8 8, a.extractLsb' 16 8]

/-- An immediate at a width (R95). -/
def encodeImm (w : Width) (v : Word) : List Byte :=
  match w with
  | .w8 => [opLo v]
  | .w16 => encode16 v

/-- The operand bytes of an instruction at the widths in force (R91, R93). -/
def Instr.operandBytes (wm wx : Width) : Instr → List Byte
  | .brk b => [b]
  | .oraDpXInd b => [b]
  | .cop b => [b]
  | .oraSr b => [b]
  | .tsbDp b => [b]
  | .oraDp b => [b]
  | .aslDp b => [b]
  | .oraDpIndLong b => [b]
  | .php => []
  | .oraImm v => encodeImm wm v
  | .aslA => []
  | .phd => []
  | .tsbAbs v => encode16 v
  | .oraAbs v => encode16 v
  | .aslAbs v => encode16 v
  | .oraLong a => encode24 a
  | .bpl b => [b]
  | .oraDpIndY b => [b]
  | .oraDpInd b => [b]
  | .oraSrIndY b => [b]
  | .trbDp b => [b]
  | .oraDpX b => [b]
  | .aslDpX b => [b]
  | .oraDpIndLongY b => [b]
  | .clc => []
  | .oraAbsY v => encode16 v
  | .incA => []
  | .tcs => []
  | .trbAbs v => encode16 v
  | .oraAbsX v => encode16 v
  | .aslAbsX v => encode16 v
  | .oraLongX a => encode24 a
  | .jsrAbs v => encode16 v
  | .andDpXInd b => [b]
  | .jsl a => encode24 a
  | .andSr b => [b]
  | .bitDp b => [b]
  | .andDp b => [b]
  | .rolDp b => [b]
  | .andDpIndLong b => [b]
  | .plp => []
  | .andImm v => encodeImm wm v
  | .rolA => []
  | .pld => []
  | .bitAbs v => encode16 v
  | .andAbs v => encode16 v
  | .rolAbs v => encode16 v
  | .andLong a => encode24 a
  | .bmi b => [b]
  | .andDpIndY b => [b]
  | .andDpInd b => [b]
  | .andSrIndY b => [b]
  | .bitDpX b => [b]
  | .andDpX b => [b]
  | .rolDpX b => [b]
  | .andDpIndLongY b => [b]
  | .sec => []
  | .andAbsY v => encode16 v
  | .decA => []
  | .tsc => []
  | .bitAbsX v => encode16 v
  | .andAbsX v => encode16 v
  | .rolAbsX v => encode16 v
  | .andLongX a => encode24 a
  | .rti => []
  | .eorDpXInd b => [b]
  | .wdm b => [b]
  | .eorSr b => [b]
  | .mvp b1 b2 => [b1, b2]
  | .eorDp b => [b]
  | .lsrDp b => [b]
  | .eorDpIndLong b => [b]
  | .pha => []
  | .eorImm v => encodeImm wm v
  | .lsrA => []
  | .phk => []
  | .jmpAbs v => encode16 v
  | .eorAbs v => encode16 v
  | .lsrAbs v => encode16 v
  | .eorLong a => encode24 a
  | .bvc b => [b]
  | .eorDpIndY b => [b]
  | .eorDpInd b => [b]
  | .eorSrIndY b => [b]
  | .mvn b1 b2 => [b1, b2]
  | .eorDpX b => [b]
  | .lsrDpX b => [b]
  | .eorDpIndLongY b => [b]
  | .cli => []
  | .eorAbsY v => encode16 v
  | .phy => []
  | .tcd => []
  | .jmpLong a => encode24 a
  | .eorAbsX v => encode16 v
  | .lsrAbsX v => encode16 v
  | .eorLongX a => encode24 a
  | .rts => []
  | .adcDpXInd b => [b]
  | .per v => encode16 v
  | .adcSr b => [b]
  | .stzDp b => [b]
  | .adcDp b => [b]
  | .rorDp b => [b]
  | .adcDpIndLong b => [b]
  | .pla => []
  | .adcImm v => encodeImm wm v
  | .rorA => []
  | .rtl => []
  | .jmpInd v => encode16 v
  | .adcAbs v => encode16 v
  | .rorAbs v => encode16 v
  | .adcLong a => encode24 a
  | .bvs b => [b]
  | .adcDpIndY b => [b]
  | .adcDpInd b => [b]
  | .adcSrIndY b => [b]
  | .stzDpX b => [b]
  | .adcDpX b => [b]
  | .rorDpX b => [b]
  | .adcDpIndLongY b => [b]
  | .sei => []
  | .adcAbsY v => encode16 v
  | .ply => []
  | .tdc => []
  | .jmpXInd v => encode16 v
  | .adcAbsX v => encode16 v
  | .rorAbsX v => encode16 v
  | .adcLongX a => encode24 a
  | .bra b => [b]
  | .staDpXInd b => [b]
  | .brl v => encode16 v
  | .staSr b => [b]
  | .styDp b => [b]
  | .staDp b => [b]
  | .stxDp b => [b]
  | .staDpIndLong b => [b]
  | .dey => []
  | .bitImm v => encodeImm wm v
  | .txa => []
  | .phb => []
  | .styAbs v => encode16 v
  | .staAbs v => encode16 v
  | .stxAbs v => encode16 v
  | .staLong a => encode24 a
  | .bcc b => [b]
  | .staDpIndY b => [b]
  | .staDpInd b => [b]
  | .staSrIndY b => [b]
  | .styDpX b => [b]
  | .staDpX b => [b]
  | .stxDpY b => [b]
  | .staDpIndLongY b => [b]
  | .tya => []
  | .staAbsY v => encode16 v
  | .txs => []
  | .txy => []
  | .stzAbs v => encode16 v
  | .staAbsX v => encode16 v
  | .stzAbsX v => encode16 v
  | .staLongX a => encode24 a
  | .ldyImm v => encodeImm wx v
  | .ldaDpXInd b => [b]
  | .ldxImm v => encodeImm wx v
  | .ldaSr b => [b]
  | .ldyDp b => [b]
  | .ldaDp b => [b]
  | .ldxDp b => [b]
  | .ldaDpIndLong b => [b]
  | .tay => []
  | .ldaImm v => encodeImm wm v
  | .tax => []
  | .plb => []
  | .ldyAbs v => encode16 v
  | .ldaAbs v => encode16 v
  | .ldxAbs v => encode16 v
  | .ldaLong a => encode24 a
  | .bcs b => [b]
  | .ldaDpIndY b => [b]
  | .ldaDpInd b => [b]
  | .ldaSrIndY b => [b]
  | .ldyDpX b => [b]
  | .ldaDpX b => [b]
  | .ldxDpY b => [b]
  | .ldaDpIndLongY b => [b]
  | .clv => []
  | .ldaAbsY v => encode16 v
  | .tsx => []
  | .tyx => []
  | .ldyAbsX v => encode16 v
  | .ldaAbsX v => encode16 v
  | .ldxAbsY v => encode16 v
  | .ldaLongX a => encode24 a
  | .cpyImm v => encodeImm wx v
  | .cmpDpXInd b => [b]
  | .rep b => [b]
  | .cmpSr b => [b]
  | .cpyDp b => [b]
  | .cmpDp b => [b]
  | .decDp b => [b]
  | .cmpDpIndLong b => [b]
  | .iny => []
  | .cmpImm v => encodeImm wm v
  | .dex => []
  | .wai => []
  | .cpyAbs v => encode16 v
  | .cmpAbs v => encode16 v
  | .decAbs v => encode16 v
  | .cmpLong a => encode24 a
  | .bne b => [b]
  | .cmpDpIndY b => [b]
  | .cmpDpInd b => [b]
  | .cmpSrIndY b => [b]
  | .pei b => [b]
  | .cmpDpX b => [b]
  | .decDpX b => [b]
  | .cmpDpIndLongY b => [b]
  | .cld => []
  | .cmpAbsY v => encode16 v
  | .phx => []
  | .stp => []
  | .jmpIndLong v => encode16 v
  | .cmpAbsX v => encode16 v
  | .decAbsX v => encode16 v
  | .cmpLongX a => encode24 a
  | .cpxImm v => encodeImm wx v
  | .sbcDpXInd b => [b]
  | .sep b => [b]
  | .sbcSr b => [b]
  | .cpxDp b => [b]
  | .sbcDp b => [b]
  | .incDp b => [b]
  | .sbcDpIndLong b => [b]
  | .inx => []
  | .sbcImm v => encodeImm wm v
  | .nop => []
  | .xba => []
  | .cpxAbs v => encode16 v
  | .sbcAbs v => encode16 v
  | .incAbs v => encode16 v
  | .sbcLong a => encode24 a
  | .beq b => [b]
  | .sbcDpIndY b => [b]
  | .sbcDpInd b => [b]
  | .sbcSrIndY b => [b]
  | .pea v => encode16 v
  | .sbcDpX b => [b]
  | .incDpX b => [b]
  | .sbcDpIndLongY b => [b]
  | .sed => []
  | .sbcAbsY v => encode16 v
  | .plx => []
  | .xce => []
  | .jsrXInd v => encode16 v
  | .sbcAbsX v => encode16 v
  | .incAbsX v => encode16 v
  | .sbcLongX a => encode24 a

/-- The bytes of an instruction in address order. -/
def encode (wm wx : Width) (i : Instr) : List Byte := i.opcode :: i.operandBytes wm wx

end Sys2Proof
end

