-- ==== Sys2Proof/Machine/Fetch.lean ====
section
/-! DEFINITION. Fetching the bytes of an instruction (30_encoding.md R92) and placing them. -/

namespace Sys2Proof.Machine

/-- The address of the byte at offset k from the opcode: the offset wraps in the program bank (R92). -/
def State.fetchAddr (s : State) (k : Nat) : Addr := bankAddr s.pbr (s.pc + BitVec.ofNat 16 k)

/-- `Fetch8(k)` (R92). -/
def State.fetch8 (s : State) (k : Nat) : Byte := s.read .fetch (s.fetchAddr k)

/-- `Fetch8(k)` for the k below the instruction's length, 0 past it. -/
def State.fetchBelow (s : State) (len k : Nat) : Byte := if k < len then s.fetch8 k else 0x00#8

/-- The bytes of the instruction at PC, all fetched before it has any effect (R92, R95). -/
def State.fetchWindow (s : State) : Window :=
  let len := instrLength s.wA s.wX (s.fetch8 0)
  { op := s.fetch8 0, b1 := s.fetchBelow len 1, b2 := s.fetchBelow len 2, b3 := s.fetchBelow len 3 }

/-- The instruction at PC, or its refusal (R97, R106). -/
def State.decodeNext (s : State) : Except DecodeError Instr :=
  decodeWindow s.cfg.variant s.wA s.wX s.fetchWindow

/-- The refusal that a decoding error is (R106); the window of a fetch is never truncated, so that error raises the same
refusal by its opcode. -/
def refusalOf (s : State) : DecodeError → Refusal
  | .unavailable op => .unavailableOpcode op
  | .truncated => .unavailableOpcode (s.fetch8 0)

/-- The bytes of a window placed in memory at PC, from outside the machine (log 20). -/
def State.placeWindow (s : State) (w : Window) : State :=
  { s with
    mem :=
      Memory.write
        (Memory.write
          (Memory.write (Memory.write s.mem (s.fetchAddr 0).toNat w.op) (s.fetchAddr 1).toNat w.b1)
          (s.fetchAddr 2).toNat w.b2)
        (s.fetchAddr 3).toNat w.b3 }

end Sys2Proof.Machine
end

