-- ==== Sys2Proof/Machine/Step.lean ====
section
/-! DEFINITION. One step of the machine (00_scope.md R13): the inputs are sampled, then an interrupt sequence, an instruction or
a stutter. -/

namespace Sys2Proof.Machine

/-- The instruction at PC fetched, decoded and executed, with no look at the inputs (R13, steps 2 to 5). -/
def runInstruction (s : State) : Host.Outcome State Fault Refusal :=
  match s.decodeNext with
  | .ok i => exec i s
  | .error err => .refused (refusalOf s err)

/-- What the acceptance test chose (R322, R331, R334), carried out. -/
def afterSampling (s : State) : Host.Outcome State Fault Refusal :=
  match s.boundary with
  | .reset => .next s.resetSequence
  | .nmi => .next s.takeNmi
  | .irq => .next s.takeIrq
  | .stay => .next s
  | .instr => runInstruction s.wake

/-- One step. -/
def step (s : State) : Host.Outcome State Fault Refusal := afterSampling s.sampleInputs

/-- The state with an instruction's bytes at PC, where the step fetches. -/
def State.withFetchWord (s : State) (nbits w : Nat) : State := s.placeWindow (windowOf nbits w)

end Sys2Proof.Machine
end

