-- ==== Sys2Proof/Machine/Forms.lean ====
section
/-! DEFINITION. The forms of the instructions that take a data operand, of the branches and of the flag instructions, from the
encodings tables of 41_arithmetic.md to 44_registers.md. Only statements use them. -/

namespace Sys2Proof.Machine

/-- One form of an instruction: its opcode byte, the first variant that has it, the instruction. -/
structure Form where
  opcode : Byte
  since : Variant
  instr : Instr
  deriving DecidableEq, Repr

/-- The form of ADC with an operand (R161). -/
def adcForm : Operand → Option Form
  | .dpXInd o => some ⟨0x61#8, .m6502, .adcDpXInd o⟩
  | .sr o => some ⟨0x63#8, .m65816, .adcSr o⟩
  | .dp o => some ⟨0x65#8, .m6502, .adcDp o⟩
  | .dpIndLong o => some ⟨0x67#8, .m65816, .adcDpIndLong o⟩
  | .immM v => some ⟨0x69#8, .m6502, .adcImm v⟩
  | .abs a => some ⟨0x6D#8, .m6502, .adcAbs a⟩
  | .long a => some ⟨0x6F#8, .m65816, .adcLong a⟩
  | .dpIndY o => some ⟨0x71#8, .m6502, .adcDpIndY o⟩
  | .dpInd o => some ⟨0x72#8, .m65C02, .adcDpInd o⟩
  | .srIndY o => some ⟨0x73#8, .m65816, .adcSrIndY o⟩
  | .dpX o => some ⟨0x75#8, .m6502, .adcDpX o⟩
  | .dpIndLongY o => some ⟨0x77#8, .m65816, .adcDpIndLongY o⟩
  | .absY a => some ⟨0x79#8, .m6502, .adcAbsY a⟩
  | .absX a => some ⟨0x7D#8, .m6502, .adcAbsX a⟩
  | .longX a => some ⟨0x7F#8, .m65816, .adcLongX a⟩
  | _ => none

/-- The form of SBC with an operand (R169). -/
def sbcForm : Operand → Option Form
  | .dpXInd o => some ⟨0xE1#8, .m6502, .sbcDpXInd o⟩
  | .sr o => some ⟨0xE3#8, .m65816, .sbcSr o⟩
  | .dp o => some ⟨0xE5#8, .m6502, .sbcDp o⟩
  | .dpIndLong o => some ⟨0xE7#8, .m65816, .sbcDpIndLong o⟩
  | .immM v => some ⟨0xE9#8, .m6502, .sbcImm v⟩
  | .abs a => some ⟨0xED#8, .m6502, .sbcAbs a⟩
  | .long a => some ⟨0xEF#8, .m65816, .sbcLong a⟩
  | .dpIndY o => some ⟨0xF1#8, .m6502, .sbcDpIndY o⟩
  | .dpInd o => some ⟨0xF2#8, .m65C02, .sbcDpInd o⟩
  | .srIndY o => some ⟨0xF3#8, .m65816, .sbcSrIndY o⟩
  | .dpX o => some ⟨0xF5#8, .m6502, .sbcDpX o⟩
  | .dpIndLongY o => some ⟨0xF7#8, .m65816, .sbcDpIndLongY o⟩
  | .absY a => some ⟨0xF9#8, .m6502, .sbcAbsY a⟩
  | .absX a => some ⟨0xFD#8, .m6502, .sbcAbsX a⟩
  | .longX a => some ⟨0xFF#8, .m65816, .sbcLongX a⟩
  | _ => none

/-- The form of AND with an operand (R180). -/
def andForm : Operand → Option Form
  | .dpXInd o => some ⟨0x21#8, .m6502, .andDpXInd o⟩
  | .sr o => some ⟨0x23#8, .m65816, .andSr o⟩
  | .dp o => some ⟨0x25#8, .m6502, .andDp o⟩
  | .dpIndLong o => some ⟨0x27#8, .m65816, .andDpIndLong o⟩
  | .immM v => some ⟨0x29#8, .m6502, .andImm v⟩
  | .abs a => some ⟨0x2D#8, .m6502, .andAbs a⟩
  | .long a => some ⟨0x2F#8, .m65816, .andLong a⟩
  | .dpIndY o => some ⟨0x31#8, .m6502, .andDpIndY o⟩
  | .dpInd o => some ⟨0x32#8, .m65C02, .andDpInd o⟩
  | .srIndY o => some ⟨0x33#8, .m65816, .andSrIndY o⟩
  | .dpX o => some ⟨0x35#8, .m6502, .andDpX o⟩
  | .dpIndLongY o => some ⟨0x37#8, .m65816, .andDpIndLongY o⟩
  | .absY a => some ⟨0x39#8, .m6502, .andAbsY a⟩
  | .absX a => some ⟨0x3D#8, .m6502, .andAbsX a⟩
  | .longX a => some ⟨0x3F#8, .m65816, .andLongX a⟩
  | _ => none

/-- The form of EOR with an operand (R183). -/
def eorForm : Operand → Option Form
  | .dpXInd o => some ⟨0x41#8, .m6502, .eorDpXInd o⟩
  | .sr o => some ⟨0x43#8, .m65816, .eorSr o⟩
  | .dp o => some ⟨0x45#8, .m6502, .eorDp o⟩
  | .dpIndLong o => some ⟨0x47#8, .m65816, .eorDpIndLong o⟩
  | .immM v => some ⟨0x49#8, .m6502, .eorImm v⟩
  | .abs a => some ⟨0x4D#8, .m6502, .eorAbs a⟩
  | .long a => some ⟨0x4F#8, .m65816, .eorLong a⟩
  | .dpIndY o => some ⟨0x51#8, .m6502, .eorDpIndY o⟩
  | .dpInd o => some ⟨0x52#8, .m65C02, .eorDpInd o⟩
  | .srIndY o => some ⟨0x53#8, .m65816, .eorSrIndY o⟩
  | .dpX o => some ⟨0x55#8, .m6502, .eorDpX o⟩
  | .dpIndLongY o => some ⟨0x57#8, .m65816, .eorDpIndLongY o⟩
  | .absY a => some ⟨0x59#8, .m6502, .eorAbsY a⟩
  | .absX a => some ⟨0x5D#8, .m6502, .eorAbsX a⟩
  | .longX a => some ⟨0x5F#8, .m65816, .eorLongX a⟩
  | _ => none

/-- The form of ORA with an operand (R184). -/
def oraForm : Operand → Option Form
  | .dpXInd o => some ⟨0x01#8, .m6502, .oraDpXInd o⟩
  | .sr o => some ⟨0x03#8, .m65816, .oraSr o⟩
  | .dp o => some ⟨0x05#8, .m6502, .oraDp o⟩
  | .dpIndLong o => some ⟨0x07#8, .m65816, .oraDpIndLong o⟩
  | .immM v => some ⟨0x09#8, .m6502, .oraImm v⟩
  | .abs a => some ⟨0x0D#8, .m6502, .oraAbs a⟩
  | .long a => some ⟨0x0F#8, .m65816, .oraLong a⟩
  | .dpIndY o => some ⟨0x11#8, .m6502, .oraDpIndY o⟩
  | .dpInd o => some ⟨0x12#8, .m65C02, .oraDpInd o⟩
  | .srIndY o => some ⟨0x13#8, .m65816, .oraSrIndY o⟩
  | .dpX o => some ⟨0x15#8, .m6502, .oraDpX o⟩
  | .dpIndLongY o => some ⟨0x17#8, .m65816, .oraDpIndLongY o⟩
  | .absY a => some ⟨0x19#8, .m6502, .oraAbsY a⟩
  | .absX a => some ⟨0x1D#8, .m6502, .oraAbsX a⟩
  | .longX a => some ⟨0x1F#8, .m65816, .oraLongX a⟩
  | _ => none

/-- The form of CMP with an operand (R209). -/
def cmpForm : Operand → Option Form
  | .dpXInd o => some ⟨0xC1#8, .m6502, .cmpDpXInd o⟩
  | .sr o => some ⟨0xC3#8, .m65816, .cmpSr o⟩
  | .dp o => some ⟨0xC5#8, .m6502, .cmpDp o⟩
  | .dpIndLong o => some ⟨0xC7#8, .m65816, .cmpDpIndLong o⟩
  | .immM v => some ⟨0xC9#8, .m6502, .cmpImm v⟩
  | .abs a => some ⟨0xCD#8, .m6502, .cmpAbs a⟩
  | .long a => some ⟨0xCF#8, .m65816, .cmpLong a⟩
  | .dpIndY o => some ⟨0xD1#8, .m6502, .cmpDpIndY o⟩
  | .dpInd o => some ⟨0xD2#8, .m65C02, .cmpDpInd o⟩
  | .srIndY o => some ⟨0xD3#8, .m65816, .cmpSrIndY o⟩
  | .dpX o => some ⟨0xD5#8, .m6502, .cmpDpX o⟩
  | .dpIndLongY o => some ⟨0xD7#8, .m65816, .cmpDpIndLongY o⟩
  | .absY a => some ⟨0xD9#8, .m6502, .cmpAbsY a⟩
  | .absX a => some ⟨0xDD#8, .m6502, .cmpAbsX a⟩
  | .longX a => some ⟨0xDF#8, .m65816, .cmpLongX a⟩
  | _ => none

/-- The form of LDA with an operand (R240). -/
def ldaForm : Operand → Option Form
  | .dpXInd o => some ⟨0xA1#8, .m6502, .ldaDpXInd o⟩
  | .sr o => some ⟨0xA3#8, .m65816, .ldaSr o⟩
  | .dp o => some ⟨0xA5#8, .m6502, .ldaDp o⟩
  | .dpIndLong o => some ⟨0xA7#8, .m65816, .ldaDpIndLong o⟩
  | .immM v => some ⟨0xA9#8, .m6502, .ldaImm v⟩
  | .abs a => some ⟨0xAD#8, .m6502, .ldaAbs a⟩
  | .long a => some ⟨0xAF#8, .m65816, .ldaLong a⟩
  | .dpIndY o => some ⟨0xB1#8, .m6502, .ldaDpIndY o⟩
  | .dpInd o => some ⟨0xB2#8, .m65C02, .ldaDpInd o⟩
  | .srIndY o => some ⟨0xB3#8, .m65816, .ldaSrIndY o⟩
  | .dpX o => some ⟨0xB5#8, .m6502, .ldaDpX o⟩
  | .dpIndLongY o => some ⟨0xB7#8, .m65816, .ldaDpIndLongY o⟩
  | .absY a => some ⟨0xB9#8, .m6502, .ldaAbsY a⟩
  | .absX a => some ⟨0xBD#8, .m6502, .ldaAbsX a⟩
  | .longX a => some ⟨0xBF#8, .m65816, .ldaLongX a⟩
  | _ => none

/-- The form of STA with an operand (R243). -/
def staForm : Operand → Option Form
  | .dpXInd o => some ⟨0x81#8, .m6502, .staDpXInd o⟩
  | .sr o => some ⟨0x83#8, .m65816, .staSr o⟩
  | .dp o => some ⟨0x85#8, .m6502, .staDp o⟩
  | .dpIndLong o => some ⟨0x87#8, .m65816, .staDpIndLong o⟩
  | .abs a => some ⟨0x8D#8, .m6502, .staAbs a⟩
  | .long a => some ⟨0x8F#8, .m65816, .staLong a⟩
  | .dpIndY o => some ⟨0x91#8, .m6502, .staDpIndY o⟩
  | .dpInd o => some ⟨0x92#8, .m65C02, .staDpInd o⟩
  | .srIndY o => some ⟨0x93#8, .m65816, .staSrIndY o⟩
  | .dpX o => some ⟨0x95#8, .m6502, .staDpX o⟩
  | .dpIndLongY o => some ⟨0x97#8, .m65816, .staDpIndLongY o⟩
  | .absY a => some ⟨0x99#8, .m6502, .staAbsY a⟩
  | .absX a => some ⟨0x9D#8, .m6502, .staAbsX a⟩
  | .longX a => some ⟨0x9F#8, .m65816, .staLongX a⟩
  | _ => none

/-- The form of ASL with an operand (R185). -/
def aslForm : Operand → Option Form
  | .dp o => some ⟨0x06#8, .m6502, .aslDp o⟩
  | .acc => some ⟨0x0A#8, .m6502, .aslA⟩
  | .abs a => some ⟨0x0E#8, .m6502, .aslAbs a⟩
  | .dpX o => some ⟨0x16#8, .m6502, .aslDpX o⟩
  | .absX a => some ⟨0x1E#8, .m6502, .aslAbsX a⟩
  | _ => none

/-- The form of LSR with an operand (R186). -/
def lsrForm : Operand → Option Form
  | .dp o => some ⟨0x46#8, .m6502, .lsrDp o⟩
  | .acc => some ⟨0x4A#8, .m6502, .lsrA⟩
  | .abs a => some ⟨0x4E#8, .m6502, .lsrAbs a⟩
  | .dpX o => some ⟨0x56#8, .m6502, .lsrDpX o⟩
  | .absX a => some ⟨0x5E#8, .m6502, .lsrAbsX a⟩
  | _ => none

/-- The form of ROL with an operand (R187). -/
def rolForm : Operand → Option Form
  | .dp o => some ⟨0x26#8, .m6502, .rolDp o⟩
  | .acc => some ⟨0x2A#8, .m6502, .rolA⟩
  | .abs a => some ⟨0x2E#8, .m6502, .rolAbs a⟩
  | .dpX o => some ⟨0x36#8, .m6502, .rolDpX o⟩
  | .absX a => some ⟨0x3E#8, .m6502, .rolAbsX a⟩
  | _ => none

/-- The form of ROR with an operand (R188). -/
def rorForm : Operand → Option Form
  | .dp o => some ⟨0x66#8, .m6502, .rorDp o⟩
  | .acc => some ⟨0x6A#8, .m6502, .rorA⟩
  | .abs a => some ⟨0x6E#8, .m6502, .rorAbs a⟩
  | .dpX o => some ⟨0x76#8, .m6502, .rorDpX o⟩
  | .absX a => some ⟨0x7E#8, .m6502, .rorAbsX a⟩
  | _ => none

/-- The form of INC with an operand (R166). -/
def incForm : Operand → Option Form
  | .acc => some ⟨0x1A#8, .m65C02, .incA⟩
  | .dp o => some ⟨0xE6#8, .m6502, .incDp o⟩
  | .abs a => some ⟨0xEE#8, .m6502, .incAbs a⟩
  | .dpX o => some ⟨0xF6#8, .m6502, .incDpX o⟩
  | .absX a => some ⟨0xFE#8, .m6502, .incAbsX a⟩
  | _ => none

/-- The form of DEC with an operand (R163). -/
def decForm : Operand → Option Form
  | .acc => some ⟨0x3A#8, .m65C02, .decA⟩
  | .dp o => some ⟨0xC6#8, .m6502, .decDp o⟩
  | .abs a => some ⟨0xCE#8, .m6502, .decAbs a⟩
  | .dpX o => some ⟨0xD6#8, .m6502, .decDpX o⟩
  | .absX a => some ⟨0xDE#8, .m6502, .decAbsX a⟩
  | _ => none

/-- The form of TRB with an operand (R189). -/
def trbForm : Operand → Option Form
  | .dp o => some ⟨0x14#8, .m65C02, .trbDp o⟩
  | .abs a => some ⟨0x1C#8, .m65C02, .trbAbs a⟩
  | _ => none

/-- The form of TSB with an operand (R190). -/
def tsbForm : Operand → Option Form
  | .dp o => some ⟨0x04#8, .m65C02, .tsbDp o⟩
  | .abs a => some ⟨0x0C#8, .m65C02, .tsbAbs a⟩
  | _ => none

/-- The form of LDY with an operand (R242). -/
def ldyForm : Operand → Option Form
  | .immX v => some ⟨0xA0#8, .m6502, .ldyImm v⟩
  | .dp o => some ⟨0xA4#8, .m6502, .ldyDp o⟩
  | .abs a => some ⟨0xAC#8, .m6502, .ldyAbs a⟩
  | .dpX o => some ⟨0xB4#8, .m6502, .ldyDpX o⟩
  | .absX a => some ⟨0xBC#8, .m6502, .ldyAbsX a⟩
  | _ => none

/-- The form of STX with an operand (R244). -/
def stxForm : Operand → Option Form
  | .dp o => some ⟨0x86#8, .m6502, .stxDp o⟩
  | .abs a => some ⟨0x8E#8, .m6502, .stxAbs a⟩
  | .dpY o => some ⟨0x96#8, .m6502, .stxDpY o⟩
  | _ => none

/-- The form of STY with an operand (R245). -/
def styForm : Operand → Option Form
  | .dp o => some ⟨0x84#8, .m6502, .styDp o⟩
  | .abs a => some ⟨0x8C#8, .m6502, .styAbs a⟩
  | .dpX o => some ⟨0x94#8, .m6502, .styDpX o⟩
  | _ => none

/-- The form of STZ with an operand (R246). -/
def stzForm : Operand → Option Form
  | .dp o => some ⟨0x64#8, .m65C02, .stzDp o⟩
  | .dpX o => some ⟨0x74#8, .m65C02, .stzDpX o⟩
  | .abs a => some ⟨0x9C#8, .m65C02, .stzAbs a⟩
  | .absX a => some ⟨0x9E#8, .m65C02, .stzAbsX a⟩
  | _ => none

/-- The form of CPX with an operand (R210). -/
def cpxForm : Operand → Option Form
  | .immX v => some ⟨0xE0#8, .m6502, .cpxImm v⟩
  | .dp o => some ⟨0xE4#8, .m6502, .cpxDp o⟩
  | .abs a => some ⟨0xEC#8, .m6502, .cpxAbs a⟩
  | _ => none

/-- The form of CPY with an operand (R211). -/
def cpyForm : Operand → Option Form
  | .immX v => some ⟨0xC0#8, .m6502, .cpyImm v⟩
  | .dp o => some ⟨0xC4#8, .m6502, .cpyDp o⟩
  | .abs a => some ⟨0xCC#8, .m6502, .cpyAbs a⟩
  | _ => none

/-- The form of BIT, memory forms, with an operand (R181). -/
def bitForm : Operand → Option Form
  | .dp o => some ⟨0x24#8, .m6502, .bitDp o⟩
  | .abs a => some ⟨0x2C#8, .m6502, .bitAbs a⟩
  | .dpX o => some ⟨0x34#8, .m65C02, .bitDpX o⟩
  | .absX a => some ⟨0x3C#8, .m65C02, .bitAbsX a⟩
  | _ => none

/-- The form of LDX, but for the two opcodes whose index a parameter decides, with an operand (R241). -/
def ldxForm : Operand → Option Form
  | .immX v => some ⟨0xA2#8, .m6502, .ldxImm v⟩
  | .dp o => some ⟨0xA6#8, .m6502, .ldxDp o⟩
  | .abs a => some ⟨0xAE#8, .m6502, .ldxAbs a⟩
  | _ => none

/-- A conditional branch: its form, the flag it tests, the value on which it is taken. -/
structure BranchForm where
  form : Form
  flag : Flag
  taken : Bool
  deriving DecidableEq, Repr

/-- The conditional branches with a displacement (R213 to R220). -/
def branchForms (disp : Byte) : List BranchForm :=
  [ ⟨⟨0x90#8, .m6502, .bcc disp⟩, .c, false⟩,
    ⟨⟨0xB0#8, .m6502, .bcs disp⟩, .c, true⟩,
    ⟨⟨0xF0#8, .m6502, .beq disp⟩, .z, true⟩,
    ⟨⟨0xD0#8, .m6502, .bne disp⟩, .z, false⟩,
    ⟨⟨0x30#8, .m6502, .bmi disp⟩, .n, true⟩,
    ⟨⟨0x10#8, .m6502, .bpl disp⟩, .n, false⟩,
    ⟨⟨0x50#8, .m6502, .bvc disp⟩, .v, false⟩,
    ⟨⟨0x70#8, .m6502, .bvs disp⟩, .v, true⟩ ]

/-- A flag instruction: its form, the flag it writes, the value it writes. -/
structure FlagForm where
  form : Form
  flag : Flag
  value : Bool
  deriving DecidableEq, Repr

/-- The flag instructions (R200 to R206). -/
def flagForms : List FlagForm :=
  [ ⟨⟨0x18#8, .m6502, .clc⟩, .c, false⟩,
    ⟨⟨0x38#8, .m6502, .sec⟩, .c, true⟩,
    ⟨⟨0xD8#8, .m6502, .cld⟩, .d, false⟩,
    ⟨⟨0xF8#8, .m6502, .sed⟩, .d, true⟩,
    ⟨⟨0x58#8, .m6502, .cli⟩, .i, false⟩,
    ⟨⟨0x78#8, .m6502, .sei⟩, .i, true⟩,
    ⟨⟨0xB8#8, .m6502, .clv⟩, .v, false⟩ ]

/-- The read-modify-write instructions (20_memory.md R71) with an operand. -/
def rmwForms (o : Operand) : List (Option Form) :=
  [aslForm o, lsrForm o, rolForm o, rorForm o, incForm o, decForm o, trbForm o, tsbForm o]

/-- The instructions with indexed forms that read or write an operand of the accumulator width once (R243, U13). -/
def accessFormsM (o : Operand) : List (Option Form) :=
  [adcForm o, sbcForm o, andForm o, eorForm o, oraForm o, bitForm o, cmpForm o, ldaForm o, staForm o, stzForm o]

/-- The instructions with indexed forms that read or write an operand of the index width once; LDX opcodes BE and B6 stand
apart (R241). -/
def accessFormsX (o : Operand) : List (Option Form) :=
  [ldyForm o, stxForm o, styForm o]

end Sys2Proof.Machine
end

