-- ==== Sys2Proof/WellFormed.lean ====
section
/-! DEFINITION. Which instructions are well formed: available on the variant (30_encoding.md R97, the variants column of R100) and
with an immediate that the width in force can hold (R95). Decode.lean states availability a second time, by opcode byte. -/

namespace Sys2Proof

/-- The variants in the order of their generations (00_scope.md R3). -/
def Variant.generation : Variant → Nat
  | .m6502 => 0
  | .m65C02 => 1
  | .m65816 => 2

/-- The first variant that has the instruction, from the variants column of R100. -/
def Instr.introducedOn : Instr → Variant
  | .brk _ | .oraDpXInd _ | .oraDp _ | .aslDp _ | .php | .oraImm _ | .aslA | .oraAbs _ | .aslAbs _ | .bpl _
  | .oraDpIndY _ | .oraDpX _ | .aslDpX _ | .clc | .oraAbsY _ | .oraAbsX _ | .aslAbsX _ | .jsrAbs _ | .andDpXInd _
  | .bitDp _ | .andDp _ | .rolDp _ | .plp | .andImm _ | .rolA | .bitAbs _ | .andAbs _ | .rolAbs _ | .bmi _
  | .andDpIndY _ | .andDpX _ | .rolDpX _ | .sec | .andAbsY _ | .andAbsX _ | .rolAbsX _ | .rti | .eorDpXInd _
  | .eorDp _ | .lsrDp _ | .pha | .eorImm _ | .lsrA | .jmpAbs _ | .eorAbs _ | .lsrAbs _ | .bvc _ | .eorDpIndY _
  | .eorDpX _ | .lsrDpX _ | .cli | .eorAbsY _ | .eorAbsX _ | .lsrAbsX _ | .rts | .adcDpXInd _ | .adcDp _ | .rorDp _
  | .pla | .adcImm _ | .rorA | .jmpInd _ | .adcAbs _ | .rorAbs _ | .bvs _ | .adcDpIndY _ | .adcDpX _ | .rorDpX _
  | .sei | .adcAbsY _ | .adcAbsX _ | .rorAbsX _ | .staDpXInd _ | .styDp _ | .staDp _ | .stxDp _ | .dey | .txa
  | .styAbs _ | .staAbs _ | .stxAbs _ | .bcc _ | .staDpIndY _ | .styDpX _ | .staDpX _ | .stxDpY _ | .tya | .staAbsY _
  | .txs | .staAbsX _ | .ldyImm _ | .ldaDpXInd _ | .ldxImm _ | .ldyDp _ | .ldaDp _ | .ldxDp _ | .tay | .ldaImm _
  | .tax | .ldyAbs _ | .ldaAbs _ | .ldxAbs _ | .bcs _ | .ldaDpIndY _ | .ldyDpX _ | .ldaDpX _ | .ldxDpY _ | .clv
  | .ldaAbsY _ | .tsx | .ldyAbsX _ | .ldaAbsX _ | .ldxAbsY _ | .cpyImm _ | .cmpDpXInd _ | .cpyDp _ | .cmpDp _
  | .decDp _ | .iny | .cmpImm _ | .dex | .cpyAbs _ | .cmpAbs _ | .decAbs _ | .bne _ | .cmpDpIndY _ | .cmpDpX _
  | .decDpX _ | .cld | .cmpAbsY _ | .cmpAbsX _ | .decAbsX _ | .cpxImm _ | .sbcDpXInd _ | .cpxDp _ | .sbcDp _
  | .incDp _ | .inx | .sbcImm _ | .nop | .cpxAbs _ | .sbcAbs _ | .incAbs _ | .beq _ | .sbcDpIndY _ | .sbcDpX _
  | .incDpX _ | .sed | .sbcAbsY _ | .sbcAbsX _ | .incAbsX _ => .m6502
  | .tsbDp _ | .tsbAbs _ | .oraDpInd _ | .trbDp _ | .incA | .trbAbs _ | .andDpInd _ | .bitDpX _ | .decA | .bitAbsX _
  | .eorDpInd _ | .phy | .stzDp _ | .adcDpInd _ | .stzDpX _ | .ply | .jmpXInd _ | .bra _ | .bitImm _ | .staDpInd _
  | .stzAbs _ | .stzAbsX _ | .ldaDpInd _ | .cmpDpInd _ | .phx | .sbcDpInd _ | .plx => .m65C02
  | .cop _ | .oraSr _ | .oraDpIndLong _ | .phd | .oraLong _ | .oraSrIndY _ | .oraDpIndLongY _ | .tcs | .oraLongX _
  | .jsl _ | .andSr _ | .andDpIndLong _ | .pld | .andLong _ | .andSrIndY _ | .andDpIndLongY _ | .tsc | .andLongX _
  | .wdm _ | .eorSr _ | .mvp _ _ | .eorDpIndLong _ | .phk | .eorLong _ | .eorSrIndY _ | .mvn _ _ | .eorDpIndLongY _
  | .tcd | .jmpLong _ | .eorLongX _ | .per _ | .adcSr _ | .adcDpIndLong _ | .rtl | .adcLong _ | .adcSrIndY _
  | .adcDpIndLongY _ | .tdc | .adcLongX _ | .brl _ | .staSr _ | .staDpIndLong _ | .phb | .staLong _ | .staSrIndY _
  | .staDpIndLongY _ | .txy | .staLongX _ | .ldaSr _ | .ldaDpIndLong _ | .plb | .ldaLong _ | .ldaSrIndY _
  | .ldaDpIndLongY _ | .tyx | .ldaLongX _ | .rep _ | .cmpSr _ | .cmpDpIndLong _ | .wai | .cmpLong _ | .cmpSrIndY _
  | .pei _ | .cmpDpIndLongY _ | .stp | .jmpIndLong _ | .cmpLongX _ | .sep _ | .sbcSr _ | .sbcDpIndLong _ | .xba
  | .sbcLong _ | .sbcSrIndY _ | .pea _ | .sbcDpIndLongY _ | .xce | .jsrXInd _ | .sbcLongX _ => .m65816

/-- The instruction exists on the variant; what an older variant has every newer one has (R3). -/
def Instr.availableOn (v : Variant) (i : Instr) : Bool :=
  decide (i.introducedOn.generation ≤ v.generation)

/-- The constant fits the width (R95). -/
def fitsWidth (w : Width) (v : Word) : Bool :=
  match w with
  | .w8 => decide (v.toNat < 256)
  | .w16 => true

/-- The immediate operand, where there is one of the accumulator or index width, fits the width in force (R95). -/
def Instr.immFits (wm wx : Width) : Instr → Bool
  | .oraImm v => fitsWidth wm v
  | .andImm v => fitsWidth wm v
  | .eorImm v => fitsWidth wm v
  | .adcImm v => fitsWidth wm v
  | .bitImm v => fitsWidth wm v
  | .ldaImm v => fitsWidth wm v
  | .cmpImm v => fitsWidth wm v
  | .sbcImm v => fitsWidth wm v
  | .ldyImm v => fitsWidth wx v
  | .ldxImm v => fitsWidth wx v
  | .cpyImm v => fitsWidth wx v
  | .cpxImm v => fitsWidth wx v
  | .brk _ | .oraDpXInd _ | .cop _ | .oraSr _ | .tsbDp _ | .oraDp _ | .aslDp _ | .oraDpIndLong _ | .php | .aslA
  | .phd | .tsbAbs _ | .oraAbs _ | .aslAbs _ | .oraLong _ | .bpl _ | .oraDpIndY _ | .oraDpInd _ | .oraSrIndY _
  | .trbDp _ | .oraDpX _ | .aslDpX _ | .oraDpIndLongY _ | .clc | .oraAbsY _ | .incA | .tcs | .trbAbs _ | .oraAbsX _
  | .aslAbsX _ | .oraLongX _ | .jsrAbs _ | .andDpXInd _ | .jsl _ | .andSr _ | .bitDp _ | .andDp _ | .rolDp _
  | .andDpIndLong _ | .plp | .rolA | .pld | .bitAbs _ | .andAbs _ | .rolAbs _ | .andLong _ | .bmi _ | .andDpIndY _
  | .andDpInd _ | .andSrIndY _ | .bitDpX _ | .andDpX _ | .rolDpX _ | .andDpIndLongY _ | .sec | .andAbsY _ | .decA
  | .tsc | .bitAbsX _ | .andAbsX _ | .rolAbsX _ | .andLongX _ | .rti | .eorDpXInd _ | .wdm _ | .eorSr _ | .mvp _ _
  | .eorDp _ | .lsrDp _ | .eorDpIndLong _ | .pha | .lsrA | .phk | .jmpAbs _ | .eorAbs _ | .lsrAbs _ | .eorLong _
  | .bvc _ | .eorDpIndY _ | .eorDpInd _ | .eorSrIndY _ | .mvn _ _ | .eorDpX _ | .lsrDpX _ | .eorDpIndLongY _ | .cli
  | .eorAbsY _ | .phy | .tcd | .jmpLong _ | .eorAbsX _ | .lsrAbsX _ | .eorLongX _ | .rts | .adcDpXInd _ | .per _
  | .adcSr _ | .stzDp _ | .adcDp _ | .rorDp _ | .adcDpIndLong _ | .pla | .rorA | .rtl | .jmpInd _ | .adcAbs _
  | .rorAbs _ | .adcLong _ | .bvs _ | .adcDpIndY _ | .adcDpInd _ | .adcSrIndY _ | .stzDpX _ | .adcDpX _ | .rorDpX _
  | .adcDpIndLongY _ | .sei | .adcAbsY _ | .ply | .tdc | .jmpXInd _ | .adcAbsX _ | .rorAbsX _ | .adcLongX _ | .bra _
  | .staDpXInd _ | .brl _ | .staSr _ | .styDp _ | .staDp _ | .stxDp _ | .staDpIndLong _ | .dey | .txa | .phb
  | .styAbs _ | .staAbs _ | .stxAbs _ | .staLong _ | .bcc _ | .staDpIndY _ | .staDpInd _ | .staSrIndY _ | .styDpX _
  | .staDpX _ | .stxDpY _ | .staDpIndLongY _ | .tya | .staAbsY _ | .txs | .txy | .stzAbs _ | .staAbsX _ | .stzAbsX _
  | .staLongX _ | .ldaDpXInd _ | .ldaSr _ | .ldyDp _ | .ldaDp _ | .ldxDp _ | .ldaDpIndLong _ | .tay | .tax | .plb
  | .ldyAbs _ | .ldaAbs _ | .ldxAbs _ | .ldaLong _ | .bcs _ | .ldaDpIndY _ | .ldaDpInd _ | .ldaSrIndY _ | .ldyDpX _
  | .ldaDpX _ | .ldxDpY _ | .ldaDpIndLongY _ | .clv | .ldaAbsY _ | .tsx | .tyx | .ldyAbsX _ | .ldaAbsX _ | .ldxAbsY _
  | .ldaLongX _ | .cmpDpXInd _ | .rep _ | .cmpSr _ | .cpyDp _ | .cmpDp _ | .decDp _ | .cmpDpIndLong _ | .iny | .dex
  | .wai | .cpyAbs _ | .cmpAbs _ | .decAbs _ | .cmpLong _ | .bne _ | .cmpDpIndY _ | .cmpDpInd _ | .cmpSrIndY _
  | .pei _ | .cmpDpX _ | .decDpX _ | .cmpDpIndLongY _ | .cld | .cmpAbsY _ | .phx | .stp | .jmpIndLong _ | .cmpAbsX _
  | .decAbsX _ | .cmpLongX _ | .sbcDpXInd _ | .sep _ | .sbcSr _ | .cpxDp _ | .sbcDp _ | .incDp _ | .sbcDpIndLong _
  | .inx | .nop | .xba | .cpxAbs _ | .sbcAbs _ | .incAbs _ | .sbcLong _ | .beq _ | .sbcDpIndY _ | .sbcDpInd _
  | .sbcSrIndY _ | .pea _ | .sbcDpX _ | .incDpX _ | .sbcDpIndLongY _ | .sed | .sbcAbsY _ | .plx | .xce | .jsrXInd _
  | .sbcAbsX _ | .incAbsX _ | .sbcLongX _ => true

/-- Well formed on a variant with the accumulator width `wm` and the index width `wx`. -/
def Instr.wellFormed (v : Variant) (wm wx : Width) (i : Instr) : Bool :=
  i.availableOn v && i.immFits wm wx

end Sys2Proof
end

