-- ==== Sys2Proof/Safety.lean ====
section
/-! DEFINITION. The terms the statements are written in: what a step leaves alone, what it stores and pushes, the common shapes
of an instruction's effect, and the invariants of 10_state.md R39. -/

namespace Sys2Proof

/-- The instruction's opcode byte and the first variant that has it (30_encoding.md R97, R100). -/
def Instr.encodedAs (i : Instr) (op : Byte) (v : Variant) : Prop := i.opcode = op ∧ i.introducedOn = v

/-! ## Which instructions write what (10_state.md R41) -/

/-- The instructions that write the emulation bit (R36). -/
def Instr.writesE (i : Instr) : Bool :=
  match i with
  | .xce => true
  | _ => false

/-- The instructions that write D (R24). -/
def Instr.writesD (i : Instr) : Bool :=
  match i with
  | .tcd | .pld => true
  | _ => false

/-- The instructions that write DBR (R25). -/
def Instr.writesDbr (i : Instr) : Bool :=
  match i with
  | .plb | .mvn _ _ | .mvp _ _ => true
  | _ => false

/-- The instructions that write PBR (R26). -/
def Instr.writesPbr (i : Instr) : Bool :=
  match i with
  | .jmpLong _ | .jmpIndLong _ | .jsl _ | .rtl | .rti | .brk _ | .cop _ => true
  | _ => false

/-- The instructions that write the run state (R44). -/
def Instr.writesRun (i : Instr) : Bool :=
  match i with
  | .wai | .stp => true
  | _ => false

/-- The instructions that write S: every push and pull, calls, returns, BRK, COP, TXS, TCS, and XCE for its high byte (R23, R41). -/
def Instr.writesS (i : Instr) : Bool :=
  match i with
  | .pha | .phb | .phd | .phk | .php | .phx | .phy | .pea _ | .pei _ | .per _ | .pla | .plb | .pld |
    .plp | .plx | .ply | .jsrAbs _ | .jsrXInd _ | .jsl _ | .rts | .rtl | .rti | .brk _ | .cop _ | .txs |
    .tcs | .xce => true
  | _ => false

/-- Stores, pushes, TXS, TCS, branches, jumps, calls, returns other than RTI, NOP, WDM, WAI, STP, MVN and MVP (R35). -/
def Instr.writesNoFlag (i : Instr) : Bool :=
  match i with
  | .php | .phd | .bpl _ | .tcs | .jsrAbs _ | .jsl _ | .bmi _ | .wdm _ | .mvp _ _ | .pha | .phk |
    .jmpAbs _ | .bvc _ | .mvn _ _ | .phy | .jmpLong _ | .rts | .per _ | .stzDp _ | .rtl | .jmpInd _ |
    .bvs _ | .stzDpX _ | .jmpXInd _ | .bra _ | .staDpXInd _ | .brl _ | .staSr _ | .styDp _ | .staDp _ |
    .stxDp _ | .staDpIndLong _ | .phb | .styAbs _ | .staAbs _ | .stxAbs _ | .staLong _ | .bcc _ |
    .staDpIndY _ | .staDpInd _ | .staSrIndY _ | .styDpX _ | .staDpX _ | .stxDpY _ | .staDpIndLongY _ |
    .staAbsY _ | .txs | .stzAbs _ | .staAbsX _ | .stzAbsX _ | .staLongX _ | .bcs _ | .wai | .bne _ |
    .pei _ | .phx | .stp | .jmpIndLong _ | .nop | .beq _ | .pea _ | .jsrXInd _ => true
  | _ => false

/-- The instructions that store or push: the stores, the read-modify-write instructions on memory, the pushes, the calls, BRK, COP and the block moves (20_memory.md R63). -/
def Instr.mayStore (i : Instr) : Bool :=
  match i with
  | .brk _ | .cop _ | .tsbDp _ | .aslDp _ | .php | .phd | .tsbAbs _ | .aslAbs _ | .trbDp _ | .aslDpX _ |
    .trbAbs _ | .aslAbsX _ | .jsrAbs _ | .jsl _ | .rolDp _ | .rolAbs _ | .rolDpX _ | .rolAbsX _ | .mvp _
    _ | .lsrDp _ | .pha | .phk | .lsrAbs _ | .mvn _ _ | .lsrDpX _ | .phy | .lsrAbsX _ | .per _ | .stzDp
    _ | .rorDp _ | .rorAbs _ | .stzDpX _ | .rorDpX _ | .rorAbsX _ | .staDpXInd _ | .staSr _ | .styDp _ |
    .staDp _ | .stxDp _ | .staDpIndLong _ | .phb | .styAbs _ | .staAbs _ | .stxAbs _ | .staLong _ |
    .staDpIndY _ | .staDpInd _ | .staSrIndY _ | .styDpX _ | .staDpX _ | .stxDpY _ | .staDpIndLongY _ |
    .staAbsY _ | .stzAbs _ | .staAbsX _ | .stzAbsX _ | .staLongX _ | .decDp _ | .decAbs _ | .pei _ |
    .decDpX _ | .phx | .decAbsX _ | .incDp _ | .incAbs _ | .pea _ | .incDpX _ | .jsrXInd _ | .incAbsX _ => true
  | _ => false

/-! ## Values -/

/-- `v[w-1:0]`, zero-extended (00_scope.md R11). -/
def lowBits (w : Width) (v : Word) : Word := BitVec.ofNat 16 (v.toNat % 2 ^ w.bits)

/-- The number of bytes of a width. -/
def Width.byteCount : Width → Nat
  | .w8 => 1
  | .w16 => 2

/-- The signed value of a word of width w. -/
def signedValue (w : Width) (v : Word) : Int :=
  if v.getLsbD (w.bits - 1) then (v.toNat : Int) - 2 ^ w.bits else v.toNat

end Sys2Proof

namespace Sys2Proof.Machine

/-- The form is encoded as the tables say (R97, R100). -/
def Form.encoded (f : Form) : Prop := f.instr.encodedAs f.opcode f.since

/-! ## Memory -/

/-- The byte at an address after a list of stores, oldest first, when it was `old` before them. -/
def byteAfter (old : Byte) (a : Addr) : List (Addr × Byte) → Byte
  | [] => old
  | (x, b) :: rest => byteAfter (if a = x then b else old) a rest

/-- Between `s` and `t` exactly these bytes were stored, oldest first: every address of RAM among them reads as last stored,
every other address reads as before (20_memory.md R64, R65). -/
def State.storesTo (s t : State) (l : List (Addr × Byte)) : Prop :=
  ∀ (k : AccessKind) (a : Addr),
    t.read k a = if kindAt s.cfg a = .ram then byteAfter (s.read k a) a l else s.read k a

/-- Every address reads as before. -/
def State.keepsMemory (s t : State) : Prop := ∀ (k : AccessKind) (a : Addr), t.read k a = s.read k a

/-- The stores of a value of width w at an operand location (40_addressing_modes.md R121). -/
def Loc.stores (l : Loc) (w : Width) (v : Word) : List (Addr × Byte) :=
  match l with
  | .imm _ => []
  | .acc => []
  | .mem a0 a1 =>
    match w with
    | .w8 => [(a0, loByte v)]
    | .w16 => [(a0, loByte v), (a1, hiByte v)]

/-- S after pushes of n bytes (R150). -/
def State.stackBelow (s : State) : Nat → Word
  | 0 => s.s
  | n + 1 => stackValue s.e (s.stackBelow n - 1#16)

/-- S after pulls of n bytes (R151). -/
def State.stackAbove (s : State) : Nat → Word
  | 0 => s.s
  | n + 1 => stackValue s.e (s.stackAbove n + 1#16)

/-- The stores of pushing these bytes, the first pushed first: byte k goes to bank 0 at S after k pushes (R150). -/
def State.pushesFrom (s : State) (k : Nat) : List Byte → List (Addr × Byte)
  | [] => []
  | b :: rest => (b0 (s.stackBelow k), b) :: s.pushesFrom (k + 1) rest

/-- The stores of pushing these bytes, the first pushed first. -/
def State.pushes (s : State) (bytes : List Byte) : List (Addr × Byte) := s.pushesFrom 0 bytes

/-- The byte that pull number n from S delivers (R151). -/
def State.stackByte (s : State) (n : Nat) : Byte := s.read .stack (b0 (s.stackAbove n))

/-- The bytes a push of a value of width w stores, high byte first (R152, R280). -/
def pushedBytes (w : Width) (v : Word) : List Byte :=
  match w with
  | .w8 => [loByte v]
  | .w16 => [hiByte v, loByte v]

/-- The value that a pull of width w delivers, low byte first (R153, R271). -/
def State.stackWord (s : State) (w : Width) : Word :=
  match w with
  | .w8 => zext (s.stackByte 1)
  | .w16 => word (s.stackByte 2) (s.stackByte 1)

/-! ## Flags -/

/-- Every flag outside the list is as before. -/
def State.keepsFlagsBut (s t : State) (fs : List Flag) : Prop := ∀ f : Flag, f ∉ fs → t.flag f = s.flag f

/-- n and z are those of a result of width w (10_state.md R30, R35). -/
def State.nzFrom (t : State) (w : Width) (r : Word) : Prop :=
  t.flag .n = r.getLsbD (w.bits - 1) ∧ t.flag .z = decide (r = 0#16)

/-! ## Shapes of an instruction's effect -/

/-- The value `r` of width w goes into the accumulator and sets n and z; PC moves on by `len`; nothing else changes (R12, R40). -/
def State.loadsAcc (s : State) (w : Width) (r : Word) (len : Nat) (out : Out) : Prop :=
  ∃ t, out = .next t ∧ t.c = mergeLow w s.c r ∧ t.nzFrom w r ∧ s.keepsFlagsBut t [.n, .z] ∧
    t.pc = s.pc + BitVec.ofNat 16 len ∧ s.keepsMemory t ∧
    { t with c := s.c, p := s.p, pc := s.pc, mem := s.mem } = s

/-- The value `r` of width w goes into an index register (high byte 0 at 8 bits) and sets n and z; PC moves on by `len`; nothing
else changes. -/
def State.loadsIndex (s : State) (reg : IndexReg) (w : Width) (r : Word) (len : Nat) (out : Out) : Prop :=
  ∃ t, out = .next t ∧ t.x = (if reg = .x then r else s.x) ∧ t.y = (if reg = .y then r else s.y) ∧ t.nzFrom w r ∧
    s.keepsFlagsBut t [.n, .z] ∧ t.pc = s.pc + BitVec.ofNat 16 len ∧ s.keepsMemory t ∧
    { t with x := s.x, y := s.y, p := s.p, pc := s.pc, mem := s.mem } = s

/-- A read-modify-write instruction writes the value `r` back to its operand and only the flags `fs`, with `flags` true of them
afterwards: the accumulator form changes the accumulator alone, a memory form the bytes of its location alone. -/
def State.writesBack (s : State) (o : Operand) (r : Word) (fs : List Flag) (flags : State → Prop) (out : Out) : Prop :=
  ∃ t, out = .next t ∧ flags t ∧ s.keepsFlagsBut t fs ∧
    t.c = (if o = .acc then mergeLow s.wA s.c r else s.c) ∧
    s.storesTo t ((o.loc s).stores s.wA r) ∧ t.pc = s.pc + BitVec.ofNat 16 (o.len s) ∧
    { t with c := s.c, p := s.p, pc := s.pc, mem := s.mem } = s

/-- The flags alone change, and of them only `fs`, with `flags` true of them afterwards; PC moves on by `len`. -/
def State.writesFlags (s : State) (fs : List Flag) (flags : State → Prop) (len : Nat) (out : Out) : Prop :=
  ∃ t, out = .next t ∧ flags t ∧ s.keepsFlagsBut t fs ∧ t.pc = s.pc + BitVec.ofNat 16 len ∧ s.keepsMemory t ∧
    { t with p := s.p, pc := s.pc, mem := s.mem } = s

/-- These bytes are stored; PC moves on by `len`; nothing else changes, no flag either. -/
def State.storesOnly (s : State) (l : List (Addr × Byte)) (len : Nat) (out : Out) : Prop :=
  ∃ t, out = .next t ∧ s.storesTo t l ∧ t.pc = s.pc + BitVec.ofNat 16 len ∧
    { t with pc := s.pc, mem := s.mem } = s

/-- These bytes are pushed, the first first; PC moves on by `len`; S moves down; nothing else changes, no flag either. -/
def State.pushesOnly (s : State) (bytes : List Byte) (len : Nat) (out : Out) : Prop :=
  ∃ t, out = .next t ∧ s.storesTo t (s.pushes bytes) ∧ t.s = s.stackBelow bytes.length ∧
    t.pc = s.pc + BitVec.ofNat 16 len ∧ { t with s := s.s, pc := s.pc, mem := s.mem } = s

/-- Control goes to `target` in the program bank; nothing else changes. -/
def State.goesTo (s : State) (target : Word) (out : Out) : Prop :=
  ∃ t, out = .next t ∧ t.pc = target ∧ s.keepsMemory t ∧ { t with pc := s.pc, mem := s.mem } = s

/-- Control goes to `bank:target`; nothing else changes. -/
def State.goesToLong (s : State) (bank : Byte) (target : Word) (out : Out) : Prop :=
  ∃ t, out = .next t ∧ t.pbr = bank ∧ t.pc = target ∧ s.keepsMemory t ∧
    { t with pbr := s.pbr, pc := s.pc, mem := s.mem } = s

/-- The interrupt sequence of 60_exceptions.md R323 as a relation between the state before it and after it: `sp` is the copy of
P that is pushed, `ret` the return address, `vec` the vector. -/
def State.interruptedTo (s t : State) (ret : Word) (sp : Byte) (vec : Word) : Prop :=
  let bytes := if s.e then [hiByte ret, loByte ret, sp] else [s.pbr, hiByte ret, loByte ret, sp]
  s.storesTo t (s.pushes bytes) ∧ t.s = s.stackBelow bytes.length ∧
    t.flag .i = true ∧ t.flag .d = (if s.cfg.variant = .m6502 then s.flag .d else false) ∧
    s.keepsFlagsBut t [.i, .d] ∧ t.pbr = 0x00#8 ∧
    t.pc = word (t.read .vector (b0 (vec + 1#16))) (t.read .vector (b0 vec)) ∧
    { t with s := s.s, p := s.p, pbr := s.pbr, pc := s.pc, mem := s.mem } = s

/-- A location in memory with these two addresses. -/
def Loc.isMem (l : Loc) (n0 n1 : Nat) : Prop := ∃ a0 a1, l = .mem a0 a1 ∧ a0.toNat = n0 ∧ a1.toNat = n1

/-- The linear number of `bank:offset` (20_memory.md R61). -/
def linear (bank : Byte) (off : Word) : Nat := bank.toNat * 65536 + off.toNat

/-- The byte at the location's low-order address, or at width 16 its high-order address, is on a device that the platform does
not declare harmless (20_memory.md R71). -/
def State.onSensitiveDevice (s : State) (l : Loc) (w : Width) : Prop :=
  ∃ a0 a1, l = .mem a0 a1 ∧
    (kindAt s.cfg a0 = .device false ∨ (w = .w16 ∧ kindAt s.cfg a1 = .device false))

/-- The access of width `w` whose address the operand's mode forms with an index register goes to a device that the platform
does not declare harmless (93_implementation_defined.md U13). -/
def Operand.onIndexedDevice (o : Operand) (s : State) (w : Width) : Prop :=
  ∃ l v, o.indexedAccess s w = some (l, v) ∧ s.onSensitiveDevice l v

/-- An instruction executed n times in a row. -/
def execTimes (i : Instr) : Nat → State → Out
  | 0, s => .next s
  | n + 1, s =>
    match exec i s with
    | .next t => execTimes i n t
    | .fault r => .fault r
    | .refused r => .refused r

/-! ## The start of a step -/

/-- The latch is set or an inactive-to-active edge of NMI comes at this step (60_exceptions.md R321). -/
def State.nmiSeen (s : State) : Bool := s.nmiPending || (s.levels.nmi && !s.nmiLine)

/-- The state once this step's inputs are sampled, with `pending` in the NMI latch. -/
def State.withInputs (s : State) (pending : Bool) : State :=
  { s with
    time := s.time + 1
    inputs := s.inputs.tail
    irqLine := s.levels.irq
    nmiLine := s.levels.nmi
    resetLine := s.levels.reset
    nmiPending := pending }

/-- Neither reset nor an interrupt sequence comes at this step, and the processor is running, or an IRQ that i masks ends its
wait (46_interrupts.md R303, 60_exceptions.md R324, R331). -/
def State.startsInstruction (s : State) : Prop :=
  s.levels.reset = false ∧ s.nmiSeen = false ∧
    ((s.run = .running ∧ (s.levels.irq = false ∨ s.flag .i = true)) ∨
      (s.run = .waiting ∧ s.levels.irq = true ∧ s.flag .i = true))

/-! ## Invariants -/

/-- The invariants I1 to I4 of 10_state.md R39, with the run state of R44 in I1, and the canonical form of the memory. "B
unreachable" of I1 is not a property of one state. -/
structure State.Inv (s : State) : Prop where
  /-- I1, R44 -/
  narrowVariant : s.cfg.variant ≠ .m65816 →
    s.e = true ∧ s.d = 0x0000#16 ∧ s.dbr = 0x00#8 ∧ s.pbr = 0x00#8 ∧ s.run = .running
  /-- I2 -/
  fixedBits : s.e = true → s.p.getLsbD 5 = true ∧ s.p.getLsbD 4 = true
  /-- I3 -/
  stackPage : s.e = true → hiByte s.s = 0x01#8
  /-- I4 -/
  narrowIndex : s.wX = .w8 → hiByte s.x = 0x00#8 ∧ hiByte s.y = 0x00#8
  /-- the canonical form of the memory (log 4) -/
  memWf : Memory.wf s.mem = true

/-- The platform declares no address a device that extra bus cycles disturb (20_memory.md R71). -/
def State.noSensitiveDevice (s : State) : Prop := ∀ r ∈ s.cfg.regions, r.kind ≠ .device false

end Sys2Proof.Machine
end

