-- ==== Sys2Proof/Certificates/Slice0/Obligations.lean ====
section
/-! DEFINITION. The statements for the provers. -/

open Sys2Proof Sys2Proof.Machine

/-! ## Encoding -/

/-- R90 to R100: an instruction that is well formed on a variant at the widths in force is read back from its bytes, whatever
bytes follow. -/
def Obligations.DecodeOfEncodeIsTheInstruction : Prop :=
  ∀ (v : Variant) (wm wx : Width) (i : Instr) (rest : List Byte), i.wellFormed v wm wx = true →
    decode v wm wx (encode wm wx i ++ rest) = .ok (i, rest)

/-- R90 to R100: what the decoder reads is well formed, and its encoding is the bytes read: no bit is dropped. -/
def Obligations.EncodeOfDecodeIsTheBytes : Prop :=
  ∀ (v : Variant) (wm wx : Width) (bytes rest : List Byte) (i : Instr), decode v wm wx bytes = .ok (i, rest) →
    bytes = encode wm wx i ++ rest ∧ i.wellFormed v wm wx = true

/-- R95: an instruction is as long as the length function says of its opcode and the widths. -/
def Obligations.EncodingHasTheLengthOfItsOpcode : Prop :=
  ∀ (wm wx : Width) (i : Instr),
    (encode wm wx i).length = instrLength wm wx i.opcode ∧
      instrLength .w16 wx i.opcode = instrLength .w8 wx i.opcode + (if i.opcode.toNat ∈ immMOpcodes then 1 else 0) ∧
      instrLength wm .w16 i.opcode = instrLength wm .w8 i.opcode + (if i.opcode.toNat ∈ immXOpcodes then 1 else 0)

/-- R97: 151 opcodes on the 6502, 178 on the 65C02, all 256 on the 65816, and no opcode of an older variant missing on a newer
one. -/
def Obligations.AvailableOpcodeCounts : Prop :=
  ((List.range 256).filter fun k => opcodeAvailable .m6502 (BitVec.ofNat 8 k)).length = 151 ∧
    ((List.range 256).filter fun k => opcodeAvailable .m65C02 (BitVec.ofNat 8 k)).length = 178 ∧
    ((List.range 256).filter fun k => opcodeAvailable .m65816 (BitVec.ofNat 8 k)).length = 256 ∧
    ∀ k ∈ List.range 256, opcodeAvailable .m6502 (BitVec.ofNat 8 k) = true →
      opcodeAvailable .m65C02 (BitVec.ofNat 8 k) = true

/-- A few words of R100, written out from its table, and the instructions they stand for. -/
def Obligations.SampleWordsDecode : Prop :=
  decodeTableWord 8 0xEA = some .nop ∧ decodeTableWord 16 0x0169 = some (.adcImm 0x0001#16) ∧
    decodeTableWord 24 0x1234BD = some (.ldaAbsX 0x1234#16) ∧ decodeTableWord 32 0x1234565C = some (.jmpLong 0x123456#24) ∧
    decodeTableWord 16 0xFBD0 = some (.bne 0xFB#8) ∧ decodeTableWord 24 0x010254 = some (.mvn 0x02#8 0x01#8) ∧
    decodeTableWord 16 0x70F6 = some (.incDpX 0x70#8) ∧ decodeTableWord 8 0x40 = some .rti ∧
    decodeTableWord 16 0x20A1 = some (.ldaDpXInd 0x20#8) ∧ decodeTableWord 24 0x2000FC = some (.jsrXInd 0x2000#16)

/-! ## State, widths, memory -/

/-- R47: the fields of the reset state whose values the spec gives. -/
def Obligations.ResetStateHasTheSpecsValues : Prop :=
  State.reset.pc = State.reset.readVector 0xFFFC#16 ∧ State.reset.pbr = 0x00#8 ∧ State.reset.dbr = 0x00#8 ∧
    State.reset.d = 0x0000#16 ∧ State.reset.e = true ∧ State.reset.flag .m = true ∧ State.reset.flag .x = true ∧
    State.reset.flag .i = true ∧ State.reset.flag .d = false ∧ hiByte State.reset.s = 0x01#8 ∧
    hiByte State.reset.x = 0x00#8 ∧ hiByte State.reset.y = 0x00#8 ∧ State.reset.run = .running ∧
    State.reset.nmiPending = false ∧ State.reset.cfg.variant = .m65816

/-- R37, R38: the two width functions. -/
def Obligations.WidthsFollowTheirFlags : Prop :=
  ∀ s : State,
    (s.wA = .w16 ↔ s.cfg.variant = .m65816 ∧ s.e = false ∧ s.p.getLsbD 5 = false) ∧
      (s.wX = .w16 ↔ s.cfg.variant = .m65816 ∧ s.e = false ∧ s.p.getLsbD 4 = false)

/-- R64, R65, R72: a byte written to RAM is read back there, no other address changes, and a write to ROM, to a device or to
nothing changes no address. -/
def Obligations.MemoryReadsWhatWasLastWritten : Prop :=
  ∀ (s : State) (a b : Addr) (v : Byte) (k : AccessKind), Memory.wf s.mem = true →
    (s.write a v).read k b = (if kindAt s.cfg a = .ram ∧ b = a then v else s.read k b) ∧
      Memory.wf (s.write a v).mem = true

/-! ## Addressing -/

/-- R149, R129 to R131, R140: the two direct page functions, and the direct page and stack relative locations, in bank 0. -/
def Obligations.DirectPageAndStackLocations : Prop :=
  ∀ (s : State) (off : Word) (o : Byte),
    (s.dpn off).toNat = (s.d.toNat + off.toNat) % 65536 ∧
      (s.dpw off).toNat =
        (if s.e = true ∧ s.d.toNat % 256 = 0 then s.d.toNat + off.toNat % 256 else (s.d.toNat + off.toNat) % 65536) ∧
      (Operand.dp o).loc s = .mem (s.dpw (zext o)) (s.dpw (zext o + 1#16)) ∧
      (Operand.dpX o).loc s =
        .mem (s.dpw (zext o + lowBits s.wX s.x)) (s.dpw (zext o + lowBits s.wX s.x + 1#16)) ∧
      (Operand.dpY o).loc s =
        .mem (s.dpw (zext o + lowBits s.wX s.y)) (s.dpw (zext o + lowBits s.wX s.y + 1#16)) ∧
      ((Operand.sr o).loc s).isMem ((s.s.toNat + o.toNat) % 65536) ((s.s.toNat + o.toNat + 1) % 65536)

/-- R126, R128, R132 to R139, R141 on the 65816: the pointers' bytes, low byte first; absolute, long and indirect locations as
24-bit sums, the second byte at the next 24-bit address. -/
def Obligations.LinearLocations65816 : Prop :=
  ∀ (s : State) (a : Word) (l : Addr) (o : Byte), s.cfg.variant = .m65816 →
    let xw := lowBits s.wX s.x
    let x := xw.toNat
    let y := (lowBits s.wX s.y).toNat
    let ptr := fun (off : Word) => word (s.read .pointer (s.dpw (off + 1#16))) (s.read .pointer (s.dpw off))
    let far := linear (s.read .pointer (s.dpn (zext o + 2#16)))
      (word (s.read .pointer (s.dpn (zext o + 1#16))) (s.read .pointer (s.dpn (zext o))))
    let sp := linear s.dbr
      (word (s.read .pointer (b0 (s.s + zext o + 1#16))) (s.read .pointer (b0 (s.s + zext o))))
    let at2 := fun (op : Operand) (n : Nat) => (op.loc s).isMem (n % 2 ^ 24) ((n + 1) % 2 ^ 24)
    at2 (.abs a) (linear s.dbr a) ∧ at2 (.absX a) (linear s.dbr a + x) ∧ at2 (.absY a) (linear s.dbr a + y) ∧
      at2 (.long l) l.toNat ∧ at2 (.longX l) (l.toNat + x) ∧ at2 (.dpInd o) (linear s.dbr (ptr (zext o))) ∧
      at2 (.dpXInd o) (linear s.dbr (ptr (zext o + xw))) ∧ at2 (.dpIndY o) (linear s.dbr (ptr (zext o)) + y) ∧
      at2 (.dpIndLong o) far ∧ at2 (.dpIndLongY o) (far + y) ∧ at2 (.srIndY o) (sp + y)

/-- R60, R122: on the 6502 and 65C02 the location of every operand that memory holds lies below 2^16; absolute and indirect
sums are taken mod 2^16, direct page sums mod 2^8. -/
def Obligations.Locations8Bit : Prop :=
  ∀ (s : State) (o : Byte) (a : Word), s.cfg.variant ≠ .m65816 → s.Inv →
    let ptr := fun (off : Nat) =>
      (s.read .pointer (BitVec.ofNat 24 (off % 256))).toNat +
        256 * (s.read .pointer (BitVec.ofNat 24 ((off + 1) % 256))).toNat
    ((Operand.abs a).loc s).isMem a.toNat ((a.toNat + 1) % 65536) ∧
      ((Operand.absX a).loc s).isMem ((a.toNat + s.x.toNat) % 65536) ((a.toNat + s.x.toNat + 1) % 65536) ∧
      ((Operand.absY a).loc s).isMem ((a.toNat + s.y.toNat) % 65536) ((a.toNat + s.y.toNat + 1) % 65536) ∧
      ((Operand.dp o).loc s).isMem o.toNat ((o.toNat + 1) % 256) ∧
      ((Operand.dpX o).loc s).isMem ((o.toNat + s.x.toNat) % 256) ((o.toNat + s.x.toNat + 1) % 256) ∧
      ((Operand.dpY o).loc s).isMem ((o.toNat + s.y.toNat) % 256) ((o.toNat + s.y.toNat + 1) % 256) ∧
      ((Operand.dpInd o).loc s).isMem (ptr o.toNat) ((ptr o.toNat + 1) % 65536) ∧
      ((Operand.dpXInd o).loc s).isMem (ptr (o.toNat + s.x.toNat)) ((ptr (o.toNat + s.x.toNat) + 1) % 65536) ∧
      ((Operand.dpIndY o).loc s).isMem ((ptr o.toNat + s.y.toNat) % 65536) ((ptr o.toNat + s.y.toNat + 1) % 65536)

/-! ## Arithmetic -/

/-- R161: ADC with d = 0, in every form, an indexed operand off sensitive devices (U13, log 11). -/
def Obligations.AdcBinaryResultFlagsAndFrame : Prop :=
  ∀ (s : State) (o : Operand) (f : Form), adcForm o = some f → s.flag .d = false → ¬ o.onIndexedDevice s s.wA →
    let w := s.wA
    let a := s.acc w
    let m := s.readData (o.loc s) w
    let sum := a.toNat + m.toNat + (s.flag .c).toNat
    let r := BitVec.ofNat 16 (sum % 2 ^ w.bits)
    f.encoded ∧
      ∃ t, exec f.instr s = .next t ∧ t.c = mergeLow w s.c r ∧ t.flag .c = decide (2 ^ w.bits ≤ sum) ∧
        t.flag .v = ((a ^^^ r) &&& (m ^^^ r)).getLsbD (w.bits - 1) ∧ t.nzFrom w r ∧
        s.keepsFlagsBut t [.n, .v, .z, .c] ∧ t.pc = s.pc + BitVec.ofNat 16 (o.len s) ∧ s.keepsMemory t ∧
        { t with c := s.c, p := s.p, pc := s.pc, mem := s.mem } = s

/-- R162: ADC with d = 1, in every form, an indexed operand off sensitive devices (U13, log 11). The free values (v
everywhere, n and z on the 6502, everything for operands that are no BCD) are left unconstrained. -/
def Obligations.AdcDecimalResultFlagsAndFrame : Prop :=
  ∀ (s : State) (o : Operand) (f : Form), adcForm o = some f → s.flag .d = true → ¬ o.onIndexedDevice s s.wA →
    let w := s.wA
    let a := s.acc w
    let m := s.readData (o.loc s) w
    let sum := dec w a + dec w m + (s.flag .c).toNat
    let r := bcd w (sum % w.decimalBase)
    f.encoded ∧
      ∃ t, exec f.instr s = .next t ∧
        (validBcd w a = true → validBcd w m = true →
          t.c = mergeLow w s.c r ∧ t.flag .c = decide (w.decimalBase ≤ sum) ∧
            (s.cfg.variant ≠ .m6502 → t.nzFrom w r)) ∧
        (w = .w8 → hiByte t.c = hiByte s.c) ∧
        s.keepsFlagsBut t [.n, .v, .z, .c] ∧ t.pc = s.pc + BitVec.ofNat 16 (o.len s) ∧ s.keepsMemory t ∧
        { t with c := s.c, p := s.p, pc := s.pc, mem := s.mem } = s

/-- R169: SBC with d = 0, in every form, an indexed operand off sensitive devices (U13, log 11). -/
def Obligations.SbcBinaryResultFlagsAndFrame : Prop :=
  ∀ (s : State) (o : Operand) (f : Form), sbcForm o = some f → s.flag .d = false → ¬ o.onIndexedDevice s s.wA →
    let w := s.wA
    let a := s.acc w
    let m := s.readData (o.loc s) w
    let diff : Int := (a.toNat : Int) - m.toNat - (1 - (s.flag .c).toNat)
    let r := BitVec.ofInt 16 (diff % 2 ^ w.bits)
    f.encoded ∧
      ∃ t, exec f.instr s = .next t ∧ t.c = mergeLow w s.c r ∧ t.flag .c = decide (0 ≤ diff) ∧
        t.flag .v = ((a ^^^ m) &&& (a ^^^ r)).getLsbD (w.bits - 1) ∧ t.nzFrom w r ∧
        s.keepsFlagsBut t [.n, .v, .z, .c] ∧ t.pc = s.pc + BitVec.ofNat 16 (o.len s) ∧ s.keepsMemory t ∧
        { t with c := s.c, p := s.p, pc := s.pc, mem := s.mem } = s

/-- R170: SBC with d = 1, in every form, an indexed operand off sensitive devices (U13, log 11); the free values are
left unconstrained. -/
def Obligations.SbcDecimalResultFlagsAndFrame : Prop :=
  ∀ (s : State) (o : Operand) (f : Form), sbcForm o = some f → s.flag .d = true → ¬ o.onIndexedDevice s s.wA →
    let w := s.wA
    let a := s.acc w
    let m := s.readData (o.loc s) w
    let diff : Int := (dec w a : Int) - dec w m - (1 - (s.flag .c).toNat)
    let r := bcd w (diff % w.decimalBase).toNat
    f.encoded ∧
      ∃ t, exec f.instr s = .next t ∧
        (validBcd w a = true → validBcd w m = true →
          t.c = mergeLow w s.c r ∧ t.flag .c = decide (0 ≤ diff) ∧ (s.cfg.variant ≠ .m6502 → t.nzFrom w r)) ∧
        (w = .w8 → hiByte t.c = hiByte s.c) ∧
        s.keepsFlagsBut t [.n, .v, .z, .c] ∧ t.pc = s.pc + BitVec.ofNat 16 (o.len s) ∧ s.keepsMemory t ∧
        { t with c := s.c, p := s.p, pc := s.pc, mem := s.mem } = s

/-- R162: `dec` and `bcd` are inverse to each other on the decimal range and on valid BCD. -/
def Obligations.BcdAndDecimalValueAreInverse : Prop :=
  ∀ w : Width,
    (∀ n < w.decimalBase, dec w (bcd w n) = n ∧ validBcd w (bcd w n) = true ∧ lowBits w (bcd w n) = bcd w n) ∧
      ∀ v : Word, lowBits w v = v → validBcd w v = true → dec w v < w.decimalBase ∧ bcd w (dec w v) = v

/-- R161, R169: v is set exactly when the signed sum or difference of the operands and the carry does not fit in w bits. -/
def Obligations.OverflowMeansSignedRangeLeft : Prop :=
  ∀ (w : Width) (a m : Word) (c : Bool), lowBits w a = a → lowBits w m = m →
    let fits := fun n : Int => -(2 : Int) ^ (w.bits - 1) ≤ n ∧ n < (2 : Int) ^ (w.bits - 1)
    ((adcBinary w a m c).v = true ↔ ¬ fits (signedValue w a + signedValue w m + c.toNat)) ∧
      ((sbcBinary w a m c).v = true ↔ ¬ fits (signedValue w a - signedValue w m - (1 - c.toNat)))

/-- R163 to R168: INC and DEC, the accumulator and the memory forms, off sensitive devices, and INX, INY, DEX, DEY at the index
width: n and z alone are written, c, v and d play no part. That a byte stored in a harmless device changes nothing of the core is
the model's choice (R65 leaves it to `Platform.mem`, log 11); the locations left out are those R71 has refused (log 11). -/
def Obligations.IncrementsAndDecrements : Prop :=
  ∀ (s : State) (o : Operand) (f : Form), Memory.wf s.mem = true →
    let up := fun (w : Width) (v : Word) => BitVec.ofNat 16 ((v.toNat + 1) % 2 ^ w.bits)
    let down := fun (w : Width) (v : Word) => BitVec.ofNat 16 ((v.toNat + 2 ^ w.bits - 1) % 2 ^ w.bits)
    let v := s.readData (o.loc s) s.wA
    let x := lowBits s.wX s.x
    let y := lowBits s.wX s.y
    (¬ s.onSensitiveDevice (o.loc s) s.wA →
      (incForm o = some f → f.encoded ∧
          s.writesBack o (up s.wA v) [.n, .z] (fun t => t.nzFrom s.wA (up s.wA v)) (exec f.instr s)) ∧
        (decForm o = some f → f.encoded ∧
          s.writesBack o (down s.wA v) [.n, .z] (fun t => t.nzFrom s.wA (down s.wA v)) (exec f.instr s))) ∧
      Instr.encodedAs .inx 0xE8#8 .m6502 ∧ s.loadsIndex .x s.wX (up s.wX x) 1 (exec .inx s) ∧
      Instr.encodedAs .iny 0xC8#8 .m6502 ∧ s.loadsIndex .y s.wX (up s.wX y) 1 (exec .iny s) ∧
      Instr.encodedAs .dex 0xCA#8 .m6502 ∧ s.loadsIndex .x s.wX (down s.wX x) 1 (exec .dex s) ∧
      Instr.encodedAs .dey 0x88#8 .m6502 ∧ s.loadsIndex .y s.wX (down s.wX y) 1 (exec .dey s)

/-! ## Binary operations -/

/-- R180, R182 to R184: AND, EOR, ORA in every form, bit by bit, an indexed operand off sensitive devices (U13, log 11). -/
def Obligations.LogicalInstructions : Prop :=
  ∀ (s : State) (o : Operand) (f : Form), ¬ o.onIndexedDevice s s.wA →
    let w := s.wA
    let m := s.readData (o.loc s) w
    (andForm o = some f → f.encoded ∧ s.loadsAcc w (s.acc w &&& m) (o.len s) (exec f.instr s)) ∧
      (eorForm o = some f → f.encoded ∧ s.loadsAcc w (s.acc w ^^^ m) (o.len s) (exec f.instr s)) ∧
      (oraForm o = some f → f.encoded ∧ s.loadsAcc w (s.acc w ||| m) (o.len s) (exec f.instr s))

/-- R181: BIT; the memory forms copy the two top bits of memory to n and v, the immediate form writes z alone. An
indexed operand lies off sensitive devices (U13, log 11). -/
def Obligations.BitTest : Prop :=
  ∀ (s : State) (o : Operand) (f : Form) (k : Word),
    let w := s.wA
    let m := s.readData (o.loc s) w
    (bitForm o = some f → ¬ o.onIndexedDevice s w → f.encoded ∧
        s.writesFlags [.n, .v, .z]
          (fun t => t.flag .z = decide (s.acc w &&& m = 0#16) ∧ t.flag .n = m.getLsbD (w.bits - 1) ∧
            t.flag .v = m.getLsbD (w.bits - 2))
          (o.len s) (exec f.instr s)) ∧
      Instr.encodedAs (.bitImm k) 0x89#8 .m65C02 ∧
      s.writesFlags [.z] (fun t => t.flag .z = decide (s.acc w &&& lowBits w k = 0#16)) (if w = .w16 then 3 else 2)
        (exec (.bitImm k) s)

/-- R185 to R188, R191: ASL, LSR, ROL, ROR, the accumulator and the memory forms, off sensitive devices. -/
def Obligations.ShiftsAndRotates : Prop :=
  ∀ (s : State) (o : Operand) (f : Form), Memory.wf s.mem = true → ¬ s.onSensitiveDevice (o.loc s) s.wA →
    let w := s.wA
    let v := s.readData (o.loc s) w
    let c := (s.flag .c).toNat
    let top := v.getLsbD (w.bits - 1)
    let asl := BitVec.ofNat 16 (v.toNat * 2 % 2 ^ w.bits)
    let lsr := BitVec.ofNat 16 (v.toNat / 2)
    let rol := BitVec.ofNat 16 ((v.toNat * 2 + c) % 2 ^ w.bits)
    let ror := BitVec.ofNat 16 (v.toNat / 2 + c * 2 ^ (w.bits - 1))
    (aslForm o = some f → f.encoded ∧
        s.writesBack o asl [.n, .z, .c] (fun t => t.nzFrom w asl ∧ t.flag .c = top) (exec f.instr s)) ∧
      (lsrForm o = some f → f.encoded ∧
        s.writesBack o lsr [.n, .z, .c] (fun t => t.flag .n = false ∧ t.nzFrom w lsr ∧ t.flag .c = v.getLsbD 0)
          (exec f.instr s)) ∧
      (rolForm o = some f → f.encoded ∧
        s.writesBack o rol [.n, .z, .c] (fun t => t.nzFrom w rol ∧ t.flag .c = top) (exec f.instr s)) ∧
      (rorForm o = some f → f.encoded ∧
        s.writesBack o ror [.n, .z, .c] (fun t => t.nzFrom w ror ∧ t.flag .c = v.getLsbD 0) (exec f.instr s))

/-- R189, R190: TRB and TSB off sensitive devices: z from the value read, the accumulator kept. -/
def Obligations.TestAndModifyBits : Prop :=
  ∀ (s : State) (o : Operand) (f : Form), Memory.wf s.mem = true → ¬ s.onSensitiveDevice (o.loc s) s.wA →
    let w := s.wA
    let m := s.readData (o.loc s) w
    let z := fun t : State => t.flag .z = decide (s.acc w &&& m = 0#16)
    (trbForm o = some f → f.encoded ∧ s.writesBack o (m &&& ~~~(s.acc w)) [.z] z (exec f.instr s)) ∧
      (tsbForm o = some f → f.encoded ∧ s.writesBack o (m ||| s.acc w) [.z] z (exec f.instr s))

/-- R71: a read-modify-write instruction on a device that is not declared harmless is refused, by name. -/
def Obligations.ReadModifyWriteOfDevicesRefused : Prop :=
  ∀ (s : State) (o : Operand) (f : Form), some f ∈ rmwForms o → s.onSensitiveDevice (o.loc s) s.wA →
    exec f.instr s = .refused .deviceRMW

/-- U13 of 93_implementation_defined.md: an instruction that reads or writes its operand once, JMP (addr,X) and, outside the
corner of R154, JSR (addr,X) are refused, by name, when an access at an address formed with an index register goes to a device
that is not declared harmless. Which accesses those are is the model's reading (log 11). -/
def Obligations.IndexedAccessesOfDevicesRefused : Prop :=
  ∀ (s : State) (o : Operand) (f : Form) (a : Word) (k : Byte),
    let far := if s.cfg.ldxIndex = .y then Operand.absY a else .absX a
    let near := if s.cfg.ldxIndex = .y then Operand.dpY k else .dpX k
    (some f ∈ accessFormsM o → o.onIndexedDevice s s.wA → exec f.instr s = .refused .deviceRMW) ∧
      (some f ∈ accessFormsX o → o.onIndexedDevice s s.wX → exec f.instr s = .refused .deviceRMW) ∧
      (far.onIndexedDevice s s.wX → exec (.ldxAbsY a) s = .refused .deviceRMW) ∧
      (near.onIndexedDevice s s.wX → exec (.ldxDpY k) s = .refused .deviceRMW) ∧
      (s.onSensitiveDevice (s.absXIndLoc a) .w16 → exec (.jmpXInd a) s = .refused .deviceRMW) ∧
      ((s.e = true → 1 ≤ (loByte s.s).toNat) → s.onSensitiveDevice (s.absXIndLoc a) .w16 →
        exec (.jsrXInd a) s = .refused .deviceRMW)

/-! ## Flags, compares, transfers of control -/

/-- R200 to R208: CLC, SEC, CLD, SED, CLI, SEI, CLV write their flag and nothing else; REP and SEP clear and set the bits of
their operand, with bits 5 and 4 kept at 1 in emulation mode (decision D18 of the spec, R33, R34) and the index registers cut
when x becomes 1 (decision D19, R39; log 15). -/
def Obligations.StatusFlagInstructions : Prop :=
  ∀ (s : State) (k : Byte),
    let effect := fun (p : Byte) (out : Out) =>
      ∃ t, out = .next t ∧ t.p = (if s.e then p ||| 0x30#8 else p) ∧ t.x = lowBits t.wX s.x ∧ t.y = lowBits t.wX s.y ∧
        t.pc = s.pc + 2#16 ∧ s.keepsMemory t ∧ { t with p := s.p, x := s.x, y := s.y, pc := s.pc, mem := s.mem } = s
    (∀ f ∈ flagForms,
        f.form.encoded ∧ s.writesFlags [f.flag] (fun t => t.flag f.flag = f.value) 1 (exec f.form.instr s)) ∧
      Instr.encodedAs (.rep k) 0xC2#8 .m65816 ∧ effect (s.p &&& ~~~k) (exec (.rep k) s) ∧
      Instr.encodedAs (.sep k) 0xE2#8 .m65816 ∧ effect (s.p ||| k) (exec (.sep k) s)

/-- R209 to R211: CMP, CPX, CPY in every form: an unsigned comparison, registers and memory kept, v not written. That d plays no
part in CMP is general knowledge by R209's own mark (log 15). An indexed operand of CMP lies off sensitive devices (the model's
reading of U13, log 11); CPX and CPY have no indexed form. -/
def Obligations.Compares : Prop :=
  ∀ (s : State) (o : Operand) (f : Form),
    let compares := fun (w : Width) (reg : Word) =>
      let m := s.readData (o.loc s) w
      let r := BitVec.ofNat 16 ((reg.toNat + 2 ^ w.bits - m.toNat) % 2 ^ w.bits)
      s.writesFlags [.n, .z, .c] (fun t => t.nzFrom w r ∧ t.flag .z = decide (reg = m) ∧ t.flag .c = decide (m.toNat ≤ reg.toNat))
        (o.len s) (exec f.instr s)
    (cmpForm o = some f → ¬ o.onIndexedDevice s s.wA → f.encoded ∧ compares s.wA (lowBits s.wA s.c)) ∧
      (cpxForm o = some f → f.encoded ∧ compares s.wX (lowBits s.wX s.x)) ∧
      (cpyForm o = some f → f.encoded ∧ compares s.wX (lowBits s.wX s.y))

/-- R142, R143, R212 to R220, R222, R223: the conditional branches, BRA and BRL; the target counts from the next instruction
and wraps in the bank: both the count of BRL (R143) and the wrap (R142) are general knowledge by the spec's own marks (log
15). -/
def Obligations.Branches : Prop :=
  ∀ (s : State) (disp : Byte) (far : Word),
    let target := BitVec.ofInt 16 ((s.pc.toNat : Int) + 2 + disp.toInt)
    (∀ f ∈ branchForms disp,
        f.form.encoded ∧ s.goesTo (if s.flag f.flag = f.taken then target else s.pc + 2#16) (exec f.form.instr s)) ∧
      Instr.encodedAs (.bra disp) 0x80#8 .m65C02 ∧ s.goesTo target (exec (.bra disp) s) ∧
      Instr.encodedAs (.brl far) 0x82#8 .m65816 ∧
      s.goesTo (BitVec.ofNat 16 (s.pc.toNat + 3 + far.toNat)) (exec (.brl far) s)

/-- R127, R128, R144 to R146, R221: the five forms of JMP, the page wrap of JMP (addr) on the 6502 included; the pointer of JMP
(addr,X) off sensitive devices (U13, log 11). -/
def Obligations.Jumps : Prop :=
  ∀ (s : State) (a : Word) (l : Addr),
    let high := if s.cfg.variant = .m6502 then word (hiByte a) (loByte (a + 1#16)) else a + 1#16
    let p := a + lowBits s.wX s.x
    Instr.encodedAs (.jmpAbs a) 0x4C#8 .m6502 ∧ s.goesTo a (exec (.jmpAbs a) s) ∧
      Instr.encodedAs (.jmpInd a) 0x6C#8 .m6502 ∧
      s.goesTo (word (s.read .pointer (b0 high)) (s.read .pointer (b0 a))) (exec (.jmpInd a) s) ∧
      Instr.encodedAs (.jmpXInd a) 0x7C#8 .m65C02 ∧
      (¬ s.onSensitiveDevice (s.absXIndLoc a) .w16 →
        s.goesTo (word (s.read .pointer (bankAddr s.pbr (p + 1#16))) (s.read .pointer (bankAddr s.pbr p)))
          (exec (.jmpXInd a) s)) ∧
      Instr.encodedAs (.jmpLong l) 0x5C#8 .m65816 ∧
      s.goesToLong (l.extractLsb' 16 8) (l.extractLsb' 0 16) (exec (.jmpLong l) s) ∧
      Instr.encodedAs (.jmpIndLong a) 0xDC#8 .m65816 ∧
      s.goesToLong (s.read .pointer (b0 (a + 2#16)))
        (word (s.read .pointer (b0 (a + 1#16))) (s.read .pointer (b0 a))) (exec (.jmpIndLong a) s)

/-- R224, R225: JSR addr pushes the address of its third byte, high byte first; RTS pulls an address and adds one.
The direction of the stack, the movement of S and the order of the bytes are decision D9 of the spec (R150 to R153, log 15). -/
def Obligations.CallAndReturn : Prop :=
  ∀ (s : State) (a : Word), Memory.wf s.mem = true →
    (Instr.encodedAs (.jsrAbs a) 0x20#8 .m6502 ∧
      ∃ t, exec (.jsrAbs a) s = .next t ∧ t.pc = a ∧ t.s = s.stackBelow 2 ∧
        s.storesTo t (s.pushes [hiByte (s.pc + 2#16), loByte (s.pc + 2#16)]) ∧
        { t with s := s.s, pc := s.pc, mem := s.mem } = s) ∧
      Instr.encodedAs .rts 0x60#8 .m6502 ∧
      ∃ t, exec .rts s = .next t ∧ t.pc = word (s.stackByte 2) (s.stackByte 1) + 1#16 ∧ t.s = s.stackAbove 2 ∧
        s.keepsMemory t ∧ { t with s := s.s, pc := s.pc, mem := s.mem } = s

/-- R226, R227, R224: JSL, RTL and JSR (addr,X), outside the corner of R154. The pointer of JSR (addr,X) is read after the
push, off sensitive devices (U13, log 11). -/
def Obligations.LongCallAndReturn : Prop :=
  ∀ (s : State) (a : Word) (l : Addr), Memory.wf s.mem = true →
    ((s.e = true → 2 ≤ (loByte s.s).toNat) →
      Instr.encodedAs (.jsl l) 0x22#8 .m65816 ∧
        ∃ t, exec (.jsl l) s = .next t ∧ t.pbr = l.extractLsb' 16 8 ∧ t.pc = l.extractLsb' 0 16 ∧
          t.s = s.stackBelow 3 ∧ s.storesTo t (s.pushes [s.pbr, hiByte (s.pc + 3#16), loByte (s.pc + 3#16)]) ∧
          { t with s := s.s, pbr := s.pbr, pc := s.pc, mem := s.mem } = s) ∧
      ((s.e = true → (loByte s.s).toNat + 3 ≤ 255) →
        Instr.encodedAs .rtl 0x6B#8 .m65816 ∧
          ∃ t, exec .rtl s = .next t ∧ t.pbr = s.stackByte 3 ∧
            t.pc = word (s.stackByte 2) (s.stackByte 1) + 1#16 ∧ t.s = s.stackAbove 3 ∧ s.keepsMemory t ∧
            { t with s := s.s, pbr := s.pbr, pc := s.pc, mem := s.mem } = s) ∧
      ((s.e = true → 1 ≤ (loByte s.s).toNat) → ¬ s.onSensitiveDevice (s.absXIndLoc a) .w16 →
        Instr.encodedAs (.jsrXInd a) 0xFC#8 .m65816 ∧
          ∃ t, exec (.jsrXInd a) s = .next t ∧
            s.storesTo t (s.pushes [hiByte (s.pc + 2#16), loByte (s.pc + 2#16)]) ∧ t.s = s.stackBelow 2 ∧
            t.pc = word (t.read .pointer (bankAddr s.pbr (a + lowBits s.wX s.x + 1#16)))
              (t.read .pointer (bankAddr s.pbr (a + lowBits s.wX s.x))) ∧
            { t with s := s.s, pc := s.pc, mem := s.mem } = s)

/-- R154: in emulation mode the instructions of the list are refused when their pushes or pulls would leave page 1. -/
def Obligations.EmulationStackCornerRefused : Prop :=
  ∀ (s : State) (a : Word) (o : Byte) (l : Addr), s.e = true →
    ((loByte s.s).toNat < 1 →
      ∀ i ∈ [Instr.pea a, .pei o, .per a, .phd, .jsrXInd a], exec i s = .refused .emulationStackWrap) ∧
      ((loByte s.s).toNat < 2 → exec (.jsl l) s = .refused .emulationStackWrap) ∧
      (0xFF < (loByte s.s).toNat + 1 → exec .plb s = .refused .emulationStackWrap) ∧
      (0xFF < (loByte s.s).toNat + 2 → exec .pld s = .refused .emulationStackWrap) ∧
      (0xFF < (loByte s.s).toNat + 3 → exec .rtl s = .refused .emulationStackWrap)

/-! ## Registers -/

/-- R240: LDA in every form, an indexed operand off sensitive devices (U13, log 11). -/
def Obligations.LoadAccumulator : Prop :=
  ∀ (s : State) (o : Operand) (f : Form), ldaForm o = some f → ¬ o.onIndexedDevice s s.wA →
    f.encoded ∧ s.loadsAcc s.wA (s.readData (o.loc s) s.wA) (o.len s) (exec f.instr s)

/-- R241, R242: LDX and LDY in every form; the index register of LDX opcodes BE and B6 follows `LDX_INDEX`
(decision D3, log 2). Indexed operands lie off sensitive devices (U13, log 11). -/
def Obligations.LoadIndexRegisters : Prop :=
  ∀ (s : State) (o : Operand) (f : Form) (a : Word) (k : Byte),
    let w := s.wX
    let far := if s.cfg.ldxIndex = .y then Operand.absY a else .absX a
    let near := if s.cfg.ldxIndex = .y then Operand.dpY k else .dpX k
    (ldyForm o = some f → ¬ o.onIndexedDevice s w → f.encoded ∧
        s.loadsIndex .y w (s.readData (o.loc s) w) (o.len s) (exec f.instr s)) ∧
      (ldxForm o = some f → f.encoded ∧ s.loadsIndex .x w (s.readData (o.loc s) w) (o.len s) (exec f.instr s)) ∧
      Instr.encodedAs (.ldxAbsY a) 0xBE#8 .m6502 ∧
      (¬ far.onIndexedDevice s w → s.loadsIndex .x w (s.readData (far.loc s) w) 3 (exec (.ldxAbsY a) s)) ∧
      Instr.encodedAs (.ldxDpY k) 0xB6#8 .m6502 ∧
      (¬ near.onIndexedDevice s w → s.loadsIndex .x w (s.readData (near.loc s) w) 2 (exec (.ldxDpY k) s))

/-- R243 to R246: STA, STX, STY, STZ in every form: the bytes of the location are stored, low byte first, and nothing else
changes; an indexed operand lies off sensitive devices (U13, log 11). That a byte stored in a device changes nothing of the core
is the model's choice (R65 leaves it to `Platform.mem`, log 11). -/
def Obligations.Stores : Prop :=
  ∀ (s : State) (o : Operand) (f : Form), Memory.wf s.mem = true →
    (staForm o = some f → ¬ o.onIndexedDevice s s.wA → f.encoded ∧
        s.storesOnly ((o.loc s).stores s.wA s.c) (o.len s) (exec f.instr s)) ∧
      (stxForm o = some f → ¬ o.onIndexedDevice s s.wX → f.encoded ∧
          s.storesOnly ((o.loc s).stores s.wX s.x) (o.len s) (exec f.instr s)) ∧
      (styForm o = some f → ¬ o.onIndexedDevice s s.wX → f.encoded ∧
          s.storesOnly ((o.loc s).stores s.wX s.y) (o.len s) (exec f.instr s)) ∧
      (stzForm o = some f → ¬ o.onIndexedDevice s s.wA → f.encoded ∧
          s.storesOnly ((o.loc s).stores s.wA 0#16) (o.len s) (exec f.instr s))

/-- R247 to R249, R254, R255, R257 to R259: the transfers at the width of their destination. -/
def Obligations.TransfersAtTheDestinationWidth : Prop :=
  ∀ s : State,
    Instr.encodedAs .tax 0xAA#8 .m6502 ∧ s.loadsIndex .x s.wX (lowBits s.wX s.c) 1 (exec .tax s) ∧
      Instr.encodedAs .tay 0xA8#8 .m6502 ∧ s.loadsIndex .y s.wX (lowBits s.wX s.c) 1 (exec .tay s) ∧
      Instr.encodedAs .tsx 0xBA#8 .m6502 ∧ s.loadsIndex .x s.wX (lowBits s.wX s.s) 1 (exec .tsx s) ∧
      Instr.encodedAs .txy 0x9B#8 .m65816 ∧ s.loadsIndex .y s.wX (lowBits s.wX s.x) 1 (exec .txy s) ∧
      Instr.encodedAs .tyx 0xBB#8 .m65816 ∧ s.loadsIndex .x s.wX (lowBits s.wX s.y) 1 (exec .tyx s) ∧
      Instr.encodedAs .txa 0x8A#8 .m6502 ∧ s.loadsAcc s.wA (lowBits s.wA s.x) 1 (exec .txa s) ∧
      Instr.encodedAs .tya 0x98#8 .m6502 ∧ s.loadsAcc s.wA (lowBits s.wA s.y) 1 (exec .tya s)

/-- R250 to R253, R256, R260: TCD, TDC, TSC move 16 bits in every mode and set n and z; TCS and TXS write S, in page 1 in
emulation mode (for TCS general knowledge by R251's own mark, log 15; for TXS R256 with R23), and no flag; XBA exchanges A and B,
with n and z those of the new A in every mode. -/
def Obligations.SixteenBitTransfers : Prop :=
  ∀ s : State,
    let toStack := fun (v : Word) (out : Out) =>
      ∃ t, out = .next t ∧ t.s = (if s.e then word 0x01#8 (loByte v) else v) ∧ t.pc = s.pc + 1#16 ∧ s.keepsMemory t ∧
        { t with s := s.s, pc := s.pc, mem := s.mem } = s
    (Instr.encodedAs .tcd 0x5B#8 .m65816 ∧
      ∃ t, exec .tcd s = .next t ∧ t.d = s.c ∧ t.nzFrom .w16 s.c ∧ s.keepsFlagsBut t [.n, .z] ∧ t.pc = s.pc + 1#16 ∧
        s.keepsMemory t ∧ { t with d := s.d, p := s.p, pc := s.pc, mem := s.mem } = s) ∧
      Instr.encodedAs .tdc 0x7B#8 .m65816 ∧ s.loadsAcc .w16 s.d 1 (exec .tdc s) ∧
      Instr.encodedAs .tsc 0x3B#8 .m65816 ∧ s.loadsAcc .w16 s.s 1 (exec .tsc s) ∧
      Instr.encodedAs .tcs 0x1B#8 .m65816 ∧ toStack s.c (exec .tcs s) ∧
      Instr.encodedAs .txs 0x9A#8 .m6502 ∧ toStack s.x (exec .txs s) ∧
      Instr.encodedAs .xba 0xEB#8 .m65816 ∧
      ∃ t, exec .xba s = .next t ∧ loByte t.c = hiByte s.c ∧ hiByte t.c = loByte s.c ∧
        t.flag .n = (hiByte s.c).getLsbD 7 ∧ t.flag .z = decide (hiByte s.c = 0x00#8) ∧ s.keepsFlagsBut t [.n, .z] ∧
        t.pc = s.pc + 1#16 ∧ s.keepsMemory t ∧ { t with c := s.c, p := s.p, pc := s.pc, mem := s.mem } = s

/-! ## Stack -/

/-- R280, R281, R283 to R286: PHA, PHX, PHY at their widths; PHB, PHK, PHP one byte, PHP with bits 5 and 4 at 1 outside native
mode (decision D18 of the spec). The direction of the stack and high byte first are its decision D9 (R150, R152, R270), what PHB
and PHK push its general knowledge (R281, R283; log 15). -/
def Obligations.Pushes : Prop :=
  ∀ s : State, Memory.wf s.mem = true →
    Instr.encodedAs .pha 0x48#8 .m6502 ∧ s.pushesOnly (pushedBytes s.wA s.c) 1 (exec .pha s) ∧
      Instr.encodedAs .phx 0xDA#8 .m65C02 ∧ s.pushesOnly (pushedBytes s.wX s.x) 1 (exec .phx s) ∧
      Instr.encodedAs .phy 0x5A#8 .m65C02 ∧ s.pushesOnly (pushedBytes s.wX s.y) 1 (exec .phy s) ∧
      Instr.encodedAs .phb 0x8B#8 .m65816 ∧ s.pushesOnly [s.dbr] 1 (exec .phb s) ∧
      Instr.encodedAs .phk 0x4B#8 .m65816 ∧ s.pushesOnly [s.pbr] 1 (exec .phk s) ∧
      Instr.encodedAs .php 0x08#8 .m6502 ∧ s.pushesOnly [if s.e then s.p ||| 0x30#8 else s.p] 1 (exec .php s)

/-- R277 to R279, R282: PEA, PEI, PER, PHD push 16 bits in every mode, outside the corner of R154. -/
def Obligations.SixteenBitPushes : Prop :=
  ∀ (s : State) (v : Word) (o : Byte), Memory.wf s.mem = true → (s.e = true → 1 ≤ (loByte s.s).toNat) →
    let q := s.pc + 3#16 + v
    let d0 := s.read .pointer (s.dpn (zext o))
    let d1 := s.read .pointer (s.dpn (zext o + 1#16))
    Instr.encodedAs (.pea v) 0xF4#8 .m65816 ∧ s.pushesOnly [hiByte v, loByte v] 3 (exec (.pea v) s) ∧
      Instr.encodedAs (.pei o) 0xD4#8 .m65816 ∧ s.pushesOnly [d1, d0] 2 (exec (.pei o) s) ∧
      Instr.encodedAs (.per v) 0x62#8 .m65816 ∧ s.pushesOnly [hiByte q, loByte q] 3 (exec (.per v) s) ∧
      Instr.encodedAs .phd 0x0B#8 .m65816 ∧ s.pushesOnly [hiByte s.d, loByte s.d] 1 (exec .phd s)

/-- R271, R275, R276: PLA, PLX, PLY at their widths, low byte first; n and z from the value pulled. The direction of a
pull and low byte first are decision D9 of the spec (R151, R153, R270; log 15). -/
def Obligations.PullsAtTheirWidths : Prop :=
  ∀ s : State,
    let v := s.stackWord s.wX
    (Instr.encodedAs .pla 0x68#8 .m6502 ∧
      ∃ t, exec .pla s = .next t ∧ t.c = mergeLow s.wA s.c (s.stackWord s.wA) ∧ t.nzFrom s.wA (s.stackWord s.wA) ∧
        s.keepsFlagsBut t [.n, .z] ∧ t.s = s.stackAbove s.wA.byteCount ∧ t.pc = s.pc + 1#16 ∧ s.keepsMemory t ∧
        { t with c := s.c, s := s.s, p := s.p, pc := s.pc, mem := s.mem } = s) ∧
      (Instr.encodedAs .plx 0xFA#8 .m65C02 ∧
        ∃ t, exec .plx s = .next t ∧ t.x = v ∧ t.nzFrom s.wX v ∧ s.keepsFlagsBut t [.n, .z] ∧
          t.s = s.stackAbove s.wX.byteCount ∧ t.pc = s.pc + 1#16 ∧ s.keepsMemory t ∧
          { t with x := s.x, s := s.s, p := s.p, pc := s.pc, mem := s.mem } = s) ∧
      (Instr.encodedAs .ply 0x7A#8 .m65C02 ∧
        ∃ t, exec .ply s = .next t ∧ t.y = v ∧ t.nzFrom s.wX v ∧ s.keepsFlagsBut t [.n, .z] ∧
          t.s = s.stackAbove s.wX.byteCount ∧ t.pc = s.pc + 1#16 ∧ s.keepsMemory t ∧
          { t with y := s.y, s := s.s, p := s.p, pc := s.pc, mem := s.mem } = s)

/-- R272 to R274: PLB, PLD outside the corner of R154, and PLP. -/
def Obligations.PullsOfSpecialRegisters : Prop :=
  ∀ s : State,
    ((s.e = true → (loByte s.s).toNat + 1 ≤ 255) →
      Instr.encodedAs .plb 0xAB#8 .m65816 ∧
        ∃ t, exec .plb s = .next t ∧ t.dbr = s.stackByte 1 ∧ t.flag .n = (s.stackByte 1).getLsbD 7 ∧
          t.flag .z = decide (s.stackByte 1 = 0x00#8) ∧ s.keepsFlagsBut t [.n, .z] ∧ t.s = s.stackAbove 1 ∧
          t.pc = s.pc + 1#16 ∧ s.keepsMemory t ∧
          { t with dbr := s.dbr, s := s.s, p := s.p, pc := s.pc, mem := s.mem } = s) ∧
      ((s.e = true → (loByte s.s).toNat + 2 ≤ 255) →
        Instr.encodedAs .pld 0x2B#8 .m65816 ∧
          ∃ t, exec .pld s = .next t ∧ t.d = s.stackWord .w16 ∧ t.nzFrom .w16 (s.stackWord .w16) ∧
            s.keepsFlagsBut t [.n, .z] ∧ t.s = s.stackAbove 2 ∧ t.pc = s.pc + 1#16 ∧ s.keepsMemory t ∧
            { t with d := s.d, s := s.s, p := s.p, pc := s.pc, mem := s.mem } = s) ∧
      Instr.encodedAs .plp 0x28#8 .m6502 ∧
      ∃ t, exec .plp s = .next t ∧ t.p = (if s.e then s.stackByte 1 ||| 0x30#8 else s.stackByte 1) ∧
        t.x = lowBits t.wX s.x ∧ t.y = lowBits t.wX s.y ∧ t.s = s.stackAbove 1 ∧ t.pc = s.pc + 1#16 ∧ s.keepsMemory t ∧
        { t with x := s.x, y := s.y, s := s.s, p := s.p, pc := s.pc, mem := s.mem } = s

/-- R150 to R153: bytes pushed where RAM lies come back in reverse order, and S returns, when S holds its page. -/
def Obligations.PullsUndoPushes : Prop :=
  ∀ (s : State) (v : Word), (s.e = true → hiByte s.s = 0x01#8) → Memory.wf s.mem = true →
    kindAt s.cfg (b0 s.s) = .ram → kindAt s.cfg (b0 (s.stackBelow 1)) = .ram →
    (s.push16 v).pull16.1 = v ∧ (s.push16 v).pull16.2.s = s.s ∧ (s.push8 (loByte v)).pull8.1 = loByte v ∧
      (s.push8 (loByte v)).pull8.2.s = s.s

/-! ## Interrupts -/

/-- R300, R301, R323, R325: BRK and COP in both modes, whatever i is. -/
def Obligations.SoftwareInterrupts : Prop :=
  ∀ (s : State) (sig : Byte), Memory.wf s.mem = true →
    let p := if s.e then s.p ||| 0x30#8 else s.p
    (Instr.encodedAs (.brk sig) 0x00#8 .m6502 ∧
      ∃ t, exec (.brk sig) s = .next t ∧
        s.interruptedTo t (s.pc + 2#16) p (if s.e then 0xFFFE#16 else 0xFFE6#16)) ∧
      Instr.encodedAs (.cop sig) 0x02#8 .m65816 ∧
      ∃ t, exec (.cop sig) s = .next t ∧
        s.interruptedTo t (s.pc + 2#16) p (if s.e then 0xFFF4#16 else 0xFFE4#16)

/-- R302: RTI pulls P, PC and in native mode PBR; e is kept. Bits 5 and 4 ignored outside native mode, the direction and order
of the pulls, and the cut of X and Y when x becomes 1 are decisions D18, D9 and D19 of the spec (log 15). -/
def Obligations.ReturnFromInterrupt : Prop :=
  ∀ s : State, Instr.encodedAs .rti 0x40#8 .m6502 ∧
    ∃ t, exec .rti s = .next t ∧ t.p = (if s.e then s.stackByte 1 ||| 0x30#8 else s.stackByte 1) ∧
      t.x = lowBits t.wX s.x ∧ t.y = lowBits t.wX s.y ∧ t.pc = word (s.stackByte 3) (s.stackByte 2) ∧
      t.pbr = (if s.e then s.pbr else s.stackByte 4) ∧ t.s = s.stackAbove (if s.e then 3 else 4) ∧ s.keepsMemory t ∧
      { t with p := s.p, x := s.x, y := s.y, pc := s.pc, pbr := s.pbr, s := s.s, mem := s.mem } = s

/-- R332: RTI right after a native-mode BRK on RAM resumes at BRK + 2 with every register as it was. -/
def Obligations.ReturnRestoresWhatBreakSaved : Prop :=
  ∀ (s : State) (sig : Byte), s.Inv → s.e = false →
    (∀ n ≤ 3, kindAt s.cfg (b0 (s.stackBelow n)) = .ram) →
    ∃ t u, exec (.brk sig) s = .next t ∧ exec .rti t = .next u ∧ u.pc = s.pc + 2#16 ∧
      { u with pc := s.pc, mem := s.mem } = s

/-- R303, R321 to R325, R331: with IRQ asserted, i clear, no reset and no NMI, a running processor takes the IRQ sequence in
place of the next instruction, and a waiting one ends its wait through it. -/
def Obligations.IrqTaken : Prop :=
  ∀ s : State, Memory.wf s.mem = true → s.run ≠ .stopped → s.levels.reset = false → s.nmiSeen = false → s.levels.irq = true →
    s.flag .i = false →
    ∃ t, step s = .next t ∧
      ({ s.withInputs false with run := .running } : State).interruptedTo t s.pc
        (if s.e then (s.p ||| 0x20#8) &&& 0xEF#8 else s.p) (if s.e then 0xFFFE#16 else 0xFFEE#16)

/-- R321, R323, R325, R326, R331: with NMI pending or its edge at this step and no reset, a running or waiting processor takes
the NMI sequence, whatever i and IRQ are, and the latch is cleared. -/
def Obligations.NmiTaken : Prop :=
  ∀ s : State, Memory.wf s.mem = true → s.run ≠ .stopped → s.levels.reset = false → s.nmiSeen = true →
    ∃ t, step s = .next t ∧
      ({ s.withInputs false with run := .running } : State).interruptedTo t s.pc
        (if s.e then (s.p ||| 0x20#8) &&& 0xEF#8 else s.p) (if s.e then 0xFFFA#16 else 0xFFEA#16)

/-- R360, R331: an asserted reset runs the reset sequence in any run state, ahead of every other input. -/
def Obligations.ResetSequence : Prop :=
  ∀ s : State, s.levels.reset = true →
    ∃ t, step s = .next t ∧ t.run = .running ∧ t.nmiPending = false ∧ hiByte t.s = 0x01#8 ∧ t.flag .i = true ∧
      (s.cfg.variant ≠ .m6502 → t.flag .d = false) ∧
      (s.cfg.variant = .m65816 →
        t.e = true ∧ t.flag .m = true ∧ t.flag .x = true ∧ hiByte t.x = 0x00#8 ∧ hiByte t.y = 0x00#8 ∧
          t.d = 0x0000#16 ∧ t.dbr = 0x00#8 ∧ t.pbr = 0x00#8) ∧
      t.pc = word (t.read .vector (b0 0xFFFD#16)) (t.read .vector (b0 0xFFFC#16)) ∧
      (∀ (k : AccessKind) (a : Addr), t.read k a = (s.withInputs false).read k a) ∧ t.cfg = s.cfg ∧ t.mem = s.mem

/-- R303, R313 to R315: WAI waits, STP stops, NOP and WDM do nothing; PC moves on. -/
def Obligations.WaitStopAndNoOperation : Prop :=
  ∀ (s : State) (b : Byte),
    let moves := fun (run : RunState) (len : Word) (out : Out) =>
      ∃ t, out = .next t ∧ t.run = run ∧ t.pc = s.pc + len ∧ s.keepsMemory t ∧
        { t with run := s.run, pc := s.pc, mem := s.mem } = s
    Instr.encodedAs .wai 0xCB#8 .m65816 ∧ moves .waiting 1#16 (exec .wai s) ∧
      Instr.encodedAs .stp 0xDB#8 .m65816 ∧ moves .stopped 1#16 (exec .stp s) ∧
      Instr.encodedAs .nop 0xEA#8 .m6502 ∧ moves s.run 1#16 (exec .nop s) ∧
      Instr.encodedAs (.wdm b) 0x42#8 .m65816 ∧ moves s.run 2#16 (exec (.wdm b) s)

/-- R303, R315, R334: a waiting processor with no input, and a stopped one without reset, stay as they are but for the inputs;
an NMI edge while stopped is not remembered. -/
def Obligations.WaitingAndStoppedStay : Prop :=
  ∀ s : State, s.levels.reset = false →
    (s.run = .waiting → s.nmiSeen = false → s.levels.irq = false → step s = .next (s.withInputs false)) ∧
      (s.run = .stopped → step s = .next (s.withInputs s.nmiPending))

/-! ## Block moves and the exchange of c and e -/

/-- R310, R311: one step of MVN and of MVP moves one byte between banks; PC stays until C wraps. -/
def Obligations.BlockMoveStep : Prop :=
  ∀ (s : State) (b1 b2 : Byte), Memory.wf s.mem = true →
    let dst := if s.cfg.blockMoveOrder = .dstFirst then b1 else b2
    let src := if s.cfg.blockMoveOrder = .dstFirst then b2 else b1
    let moves := fun (x y : Word) (out : Out) =>
      ∃ t, out = .next t ∧ s.storesTo t [(bankAddr dst s.y, s.read .data (bankAddr src s.x))] ∧
        t.x = lowBits s.wX x ∧ t.y = lowBits s.wX y ∧ t.c = s.c - 1#16 ∧ t.dbr = dst ∧
        t.pc = (if s.c = 0x0000#16 then s.pc + 3#16 else s.pc) ∧
        { t with x := s.x, y := s.y, c := s.c, dbr := s.dbr, pc := s.pc, mem := s.mem } = s
    Instr.encodedAs (.mvn b1 b2) 0x54#8 .m65816 ∧ moves (s.x + 1#16) (s.y + 1#16) (exec (.mvn b1 b2) s) ∧
      Instr.encodedAs (.mvp b1 b2) 0x44#8 .m65816 ∧ moves (s.x - 1#16) (s.y - 1#16) (exec (.mvp b1 b2) s)

/-- R310: MVN executed C + 1 times ends with C = FFFF, X and Y advanced by the number of bytes, DBR the destination bank, and PC
past the instruction; memory outside the destination bank is as before. -/
def Obligations.BlockMoveCompletes : Prop :=
  ∀ (s : State) (b1 b2 : Byte),
    let n := s.c.toNat + 1
    let dst := if s.cfg.blockMoveOrder = .dstFirst then b1 else b2
    ∃ t, execTimes (.mvn b1 b2) n s = .next t ∧ t.c = 0xFFFF#16 ∧ t.x = lowBits s.wX (s.x + BitVec.ofNat 16 n) ∧
      t.y = lowBits s.wX (s.y + BitVec.ofNat 16 n) ∧ t.dbr = dst ∧ t.pc = s.pc + 3#16 ∧
      (∀ (k : AccessKind) (a : Addr), a.extractLsb' 16 8 ≠ dst → t.read k a = s.read k a) ∧
      { t with x := s.x, y := s.y, c := s.c, dbr := s.dbr, pc := s.pc, mem := s.mem } = s

/-- R312: XCE in its four cases. -/
def Obligations.ExchangeCarryAndEmulation : Prop :=
  ∀ s : State, Instr.encodedAs .xce 0xFB#8 .m65816 ∧
    ∃ t, exec .xce s = .next t ∧ t.e = s.flag .c ∧ t.flag .c = s.e ∧
      (s.flag .c = true → t.flag .m = true ∧ t.flag .x = true ∧ t.x = zext (loByte s.x) ∧ t.y = zext (loByte s.y) ∧
        t.s = word 0x01#8 (loByte s.s)) ∧
      (s.flag .c = false → t.x = s.x ∧ t.y = s.y ∧ t.s = s.s) ∧
      (s.flag .c = false → s.e = true → t.flag .m = true ∧ t.flag .x = true) ∧
      (s.flag .c = false → s.e = false → s.keepsFlagsBut t [.c]) ∧ s.keepsFlagsBut t [.c, .m, .x] ∧
      t.pc = s.pc + 1#16 ∧ s.keepsMemory t ∧
      { t with e := s.e, p := s.p, x := s.x, y := s.y, s := s.s, pc := s.pc, mem := s.mem } = s

/-! ## The whole machine -/

/-- R13, R92, R95: when no interrupt comes and the bytes from PC on, the offset wrapping in the program bank, are the encoding
of an instruction that is well formed at the widths in force, the step is exec of that instruction on the state with the
inputs sampled. -/
def Obligations.StepRunsTheInstructionAtPc : Prop :=
  ∀ (s : State) (i : Instr), s.startsInstruction →
    let u : State := { s.withInputs false with run := .running }
    i.wellFormed s.cfg.variant s.wA s.wX = true →
    (∀ k < (encode s.wA s.wX i).length,
      u.read .fetch (bankAddr s.pbr (s.pc + BitVec.ofNat 16 k)) = (encode s.wA s.wX i).getD k 0x00#8) →
    step s = exec i u

/-- R106: when no interrupt comes and the opcode at PC is one the variant does not have, the step is refused by name with that
opcode. -/
def Obligations.UnavailableOpcodeRefused : Prop :=
  ∀ s : State, s.startsInstruction →
    let op := (s.withInputs false).read .fetch (bankAddr s.pbr s.pc)
    opcodeAvailable s.cfg.variant op = false → step s = .refused (.unavailableOpcode op)

/-- R39, R44: the invariant holds right after reset. -/
def Obligations.ResetMeetsTheInvariant : Prop := State.reset.Inv

/-- R39, R44, R360: every step keeps the invariant: instructions, interrupt sequences, the reset sequence and stutters alike, on
every variant. -/
def Obligations.StepKeepsTheInvariant : Prop :=
  ∀ s t : State, s.Inv → step s = .next t → t.Inv

/-- R320, R154, R71, U13: no instruction can fail: with no sensitive device every instruction completes in native mode, and in
any state the only refusals are the stack corner of emulation mode and a sensitive device. -/
def Obligations.InstructionsCompleteButForTwoCorners : Prop :=
  ∀ (i : Instr) (s : State),
    (s.e = false → s.noSensitiveDevice → ∃ t, exec i s = .next t) ∧
      ∀ r : Refusal, exec i s = .refused r →
        (r = .emulationStackWrap ∧ s.e = true) ∨ (r = .deviceRMW ∧ ¬ s.noSensitiveDevice)

/-- R23 to R26, R36, R41, R44: each of e, D, DBR, PBR, S and the run state changes only by the instructions that write it; no
instruction changes the configuration or the interrupt inputs. -/
def Obligations.RegistersChangeOnlyByTheirWriters : Prop :=
  ∀ (i : Instr) (s t : State), exec i s = .next t →
    (i.writesE = false → t.e = s.e) ∧ (i.writesD = false → t.d = s.d) ∧ (i.writesDbr = false → t.dbr = s.dbr) ∧
      (i.writesPbr = false → t.pbr = s.pbr) ∧ (i.writesS = false → t.s = s.s) ∧
      (i.writesRun = false → t.run = s.run) ∧ t.cfg = s.cfg ∧ t.irqLine = s.irqLine ∧ t.nmiPending = s.nmiPending ∧
      t.resetLine = s.resetLine ∧ t.inputs = s.inputs

/-- R35: stores, pushes, TXS, TCS, branches, jumps, calls, returns other than RTI, NOP, WDM, WAI, STP, MVN and MVP write no
flag. R63: memory changes only by the stores, the read-modify-write instructions on memory, pushes, calls, BRK, COP, block
moves. -/
def Obligations.FlagsAndMemoryChangeOnlyByTheirWriters : Prop :=
  ∀ (i : Instr) (s t : State), exec i s = .next t →
    (i.writesNoFlag = true → t.p = s.p) ∧ (i.mayStore = false → s.keepsMemory t)

/-- R60, R122: on the 6502 and 65C02 no instruction of the variant reaches a byte at or above 2^16. -/
def Obligations.NarrowVariantsStayIn64K : Prop :=
  ∀ (i : Instr) (s t : State), s.cfg.variant ≠ .m65816 → s.Inv → i.availableOn s.cfg.variant = true →
    exec i s = .next t → ∀ a : Addr, 65536 ≤ a.toNat → Memory.read t.mem a.toNat = Memory.read s.mem a.toNat
end

