-- ==== Sys2Proof/Laws/State.lean ====
section
/-! SUPPORT. One lemma per field per update of the state, so that no proof unfolds a record update. -/

namespace Sys2Proof.Machine

variable (s : State)

@[simp] theorem State.setFlag_cfg (f : Flag) (b : Bool) : (s.setFlag f b).cfg = s.cfg := rfl
@[simp] theorem State.setFlag_c (f : Flag) (b : Bool) : (s.setFlag f b).c = s.c := rfl
@[simp] theorem State.setFlag_x (f : Flag) (b : Bool) : (s.setFlag f b).x = s.x := rfl
@[simp] theorem State.setFlag_y (f : Flag) (b : Bool) : (s.setFlag f b).y = s.y := rfl
@[simp] theorem State.setFlag_s (f : Flag) (b : Bool) : (s.setFlag f b).s = s.s := rfl
@[simp] theorem State.setFlag_d (f : Flag) (b : Bool) : (s.setFlag f b).d = s.d := rfl
@[simp] theorem State.setFlag_dbr (f : Flag) (b : Bool) : (s.setFlag f b).dbr = s.dbr := rfl
@[simp] theorem State.setFlag_pbr (f : Flag) (b : Bool) : (s.setFlag f b).pbr = s.pbr := rfl
@[simp] theorem State.setFlag_pc (f : Flag) (b : Bool) : (s.setFlag f b).pc = s.pc := rfl
@[simp] theorem State.setFlag_p (f : Flag) (b : Bool) : (s.setFlag f b).p = setFlagIn s.p f b := rfl
@[simp] theorem State.setFlag_e (f : Flag) (b : Bool) : (s.setFlag f b).e = s.e := rfl
@[simp] theorem State.setFlag_run (f : Flag) (b : Bool) : (s.setFlag f b).run = s.run := rfl
@[simp] theorem State.setFlag_irqLine (f : Flag) (b : Bool) : (s.setFlag f b).irqLine = s.irqLine := rfl
@[simp] theorem State.setFlag_nmiLine (f : Flag) (b : Bool) : (s.setFlag f b).nmiLine = s.nmiLine := rfl
@[simp] theorem State.setFlag_nmiPending (f : Flag) (b : Bool) : (s.setFlag f b).nmiPending = s.nmiPending := rfl
@[simp] theorem State.setFlag_resetLine (f : Flag) (b : Bool) : (s.setFlag f b).resetLine = s.resetLine := rfl
@[simp] theorem State.setFlag_inputs (f : Flag) (b : Bool) : (s.setFlag f b).inputs = s.inputs := rfl
@[simp] theorem State.setFlag_time (f : Flag) (b : Bool) : (s.setFlag f b).time = s.time := rfl
@[simp] theorem State.setFlag_mem (f : Flag) (b : Bool) : (s.setFlag f b).mem = s.mem := rfl

@[simp] theorem State.write_cfg (a : Addr) (v : Byte) : (s.write a v).cfg = s.cfg := rfl
@[simp] theorem State.write_c (a : Addr) (v : Byte) : (s.write a v).c = s.c := rfl
@[simp] theorem State.write_x (a : Addr) (v : Byte) : (s.write a v).x = s.x := rfl
@[simp] theorem State.write_y (a : Addr) (v : Byte) : (s.write a v).y = s.y := rfl
@[simp] theorem State.write_s (a : Addr) (v : Byte) : (s.write a v).s = s.s := rfl
@[simp] theorem State.write_d (a : Addr) (v : Byte) : (s.write a v).d = s.d := rfl
@[simp] theorem State.write_dbr (a : Addr) (v : Byte) : (s.write a v).dbr = s.dbr := rfl
@[simp] theorem State.write_pbr (a : Addr) (v : Byte) : (s.write a v).pbr = s.pbr := rfl
@[simp] theorem State.write_pc (a : Addr) (v : Byte) : (s.write a v).pc = s.pc := rfl
@[simp] theorem State.write_p (a : Addr) (v : Byte) : (s.write a v).p = s.p := rfl
@[simp] theorem State.write_e (a : Addr) (v : Byte) : (s.write a v).e = s.e := rfl
@[simp] theorem State.write_run (a : Addr) (v : Byte) : (s.write a v).run = s.run := rfl
@[simp] theorem State.write_irqLine (a : Addr) (v : Byte) : (s.write a v).irqLine = s.irqLine := rfl
@[simp] theorem State.write_nmiLine (a : Addr) (v : Byte) : (s.write a v).nmiLine = s.nmiLine := rfl
@[simp] theorem State.write_nmiPending (a : Addr) (v : Byte) : (s.write a v).nmiPending = s.nmiPending := rfl
@[simp] theorem State.write_resetLine (a : Addr) (v : Byte) : (s.write a v).resetLine = s.resetLine := rfl
@[simp] theorem State.write_inputs (a : Addr) (v : Byte) : (s.write a v).inputs = s.inputs := rfl
@[simp] theorem State.write_time (a : Addr) (v : Byte) : (s.write a v).time = s.time := rfl
@[simp] theorem State.write_mem (a : Addr) (v : Byte) :
    (s.write a v).mem = if kindAt s.cfg a = .ram then Memory.write s.mem a.toNat v else s.mem := rfl

@[simp] theorem State.setAcc_cfg (w : Width) (v : Word) : (s.setAcc w v).cfg = s.cfg := rfl
@[simp] theorem State.setAcc_c (w : Width) (v : Word) : (s.setAcc w v).c = mergeLow w s.c v := rfl
@[simp] theorem State.setAcc_x (w : Width) (v : Word) : (s.setAcc w v).x = s.x := rfl
@[simp] theorem State.setAcc_y (w : Width) (v : Word) : (s.setAcc w v).y = s.y := rfl
@[simp] theorem State.setAcc_s (w : Width) (v : Word) : (s.setAcc w v).s = s.s := rfl
@[simp] theorem State.setAcc_d (w : Width) (v : Word) : (s.setAcc w v).d = s.d := rfl
@[simp] theorem State.setAcc_dbr (w : Width) (v : Word) : (s.setAcc w v).dbr = s.dbr := rfl
@[simp] theorem State.setAcc_pbr (w : Width) (v : Word) : (s.setAcc w v).pbr = s.pbr := rfl
@[simp] theorem State.setAcc_pc (w : Width) (v : Word) : (s.setAcc w v).pc = s.pc := rfl
@[simp] theorem State.setAcc_p (w : Width) (v : Word) : (s.setAcc w v).p = s.p := rfl
@[simp] theorem State.setAcc_e (w : Width) (v : Word) : (s.setAcc w v).e = s.e := rfl
@[simp] theorem State.setAcc_run (w : Width) (v : Word) : (s.setAcc w v).run = s.run := rfl
@[simp] theorem State.setAcc_irqLine (w : Width) (v : Word) : (s.setAcc w v).irqLine = s.irqLine := rfl
@[simp] theorem State.setAcc_nmiLine (w : Width) (v : Word) : (s.setAcc w v).nmiLine = s.nmiLine := rfl
@[simp] theorem State.setAcc_nmiPending (w : Width) (v : Word) : (s.setAcc w v).nmiPending = s.nmiPending := rfl
@[simp] theorem State.setAcc_resetLine (w : Width) (v : Word) : (s.setAcc w v).resetLine = s.resetLine := rfl
@[simp] theorem State.setAcc_inputs (w : Width) (v : Word) : (s.setAcc w v).inputs = s.inputs := rfl
@[simp] theorem State.setAcc_time (w : Width) (v : Word) : (s.setAcc w v).time = s.time := rfl
@[simp] theorem State.setAcc_mem (w : Width) (v : Word) : (s.setAcc w v).mem = s.mem := rfl

@[simp] theorem State.setIdx_cfg (r : IndexReg) (w : Width) (v : Word) : (s.setIdx r w v).cfg = s.cfg := rfl
@[simp] theorem State.setIdx_c (r : IndexReg) (w : Width) (v : Word) : (s.setIdx r w v).c = s.c := rfl
@[simp] theorem State.setIdx_x (r : IndexReg) (w : Width) (v : Word) :
    (s.setIdx r w v).x = if r = .x then narrow w v else s.x := rfl
@[simp] theorem State.setIdx_y (r : IndexReg) (w : Width) (v : Word) :
    (s.setIdx r w v).y = if r = .y then narrow w v else s.y := rfl
@[simp] theorem State.setIdx_s (r : IndexReg) (w : Width) (v : Word) : (s.setIdx r w v).s = s.s := rfl
@[simp] theorem State.setIdx_d (r : IndexReg) (w : Width) (v : Word) : (s.setIdx r w v).d = s.d := rfl
@[simp] theorem State.setIdx_dbr (r : IndexReg) (w : Width) (v : Word) : (s.setIdx r w v).dbr = s.dbr := rfl
@[simp] theorem State.setIdx_pbr (r : IndexReg) (w : Width) (v : Word) : (s.setIdx r w v).pbr = s.pbr := rfl
@[simp] theorem State.setIdx_pc (r : IndexReg) (w : Width) (v : Word) : (s.setIdx r w v).pc = s.pc := rfl
@[simp] theorem State.setIdx_p (r : IndexReg) (w : Width) (v : Word) : (s.setIdx r w v).p = s.p := rfl
@[simp] theorem State.setIdx_e (r : IndexReg) (w : Width) (v : Word) : (s.setIdx r w v).e = s.e := rfl
@[simp] theorem State.setIdx_run (r : IndexReg) (w : Width) (v : Word) : (s.setIdx r w v).run = s.run := rfl
@[simp] theorem State.setIdx_irqLine (r : IndexReg) (w : Width) (v : Word) :
    (s.setIdx r w v).irqLine = s.irqLine := rfl
@[simp] theorem State.setIdx_nmiLine (r : IndexReg) (w : Width) (v : Word) :
    (s.setIdx r w v).nmiLine = s.nmiLine := rfl
@[simp] theorem State.setIdx_nmiPending (r : IndexReg) (w : Width) (v : Word) :
    (s.setIdx r w v).nmiPending = s.nmiPending := rfl
@[simp] theorem State.setIdx_resetLine (r : IndexReg) (w : Width) (v : Word) :
    (s.setIdx r w v).resetLine = s.resetLine := rfl
@[simp] theorem State.setIdx_inputs (r : IndexReg) (w : Width) (v : Word) : (s.setIdx r w v).inputs = s.inputs := rfl
@[simp] theorem State.setIdx_time (r : IndexReg) (w : Width) (v : Word) : (s.setIdx r w v).time = s.time := rfl
@[simp] theorem State.setIdx_mem (r : IndexReg) (w : Width) (v : Word) : (s.setIdx r w v).mem = s.mem := rfl

@[simp] theorem State.setS_cfg (v : Word) : (s.setS v).cfg = s.cfg := rfl
@[simp] theorem State.setS_c (v : Word) : (s.setS v).c = s.c := rfl
@[simp] theorem State.setS_x (v : Word) : (s.setS v).x = s.x := rfl
@[simp] theorem State.setS_y (v : Word) : (s.setS v).y = s.y := rfl
@[simp] theorem State.setS_s (v : Word) : (s.setS v).s = stackValue s.e v := rfl
@[simp] theorem State.setS_d (v : Word) : (s.setS v).d = s.d := rfl
@[simp] theorem State.setS_dbr (v : Word) : (s.setS v).dbr = s.dbr := rfl
@[simp] theorem State.setS_pbr (v : Word) : (s.setS v).pbr = s.pbr := rfl
@[simp] theorem State.setS_pc (v : Word) : (s.setS v).pc = s.pc := rfl
@[simp] theorem State.setS_p (v : Word) : (s.setS v).p = s.p := rfl
@[simp] theorem State.setS_e (v : Word) : (s.setS v).e = s.e := rfl
@[simp] theorem State.setS_run (v : Word) : (s.setS v).run = s.run := rfl
@[simp] theorem State.setS_irqLine (v : Word) : (s.setS v).irqLine = s.irqLine := rfl
@[simp] theorem State.setS_nmiLine (v : Word) : (s.setS v).nmiLine = s.nmiLine := rfl
@[simp] theorem State.setS_nmiPending (v : Word) : (s.setS v).nmiPending = s.nmiPending := rfl
@[simp] theorem State.setS_resetLine (v : Word) : (s.setS v).resetLine = s.resetLine := rfl
@[simp] theorem State.setS_inputs (v : Word) : (s.setS v).inputs = s.inputs := rfl
@[simp] theorem State.setS_time (v : Word) : (s.setS v).time = s.time := rfl
@[simp] theorem State.setS_mem (v : Word) : (s.setS v).mem = s.mem := rfl

@[simp] theorem State.setP_cfg (v : Byte) : (s.setP v).cfg = s.cfg := rfl
@[simp] theorem State.setP_c (v : Byte) : (s.setP v).c = s.c := rfl
@[simp] theorem State.setP_s (v : Byte) : (s.setP v).s = s.s := rfl
@[simp] theorem State.setP_d (v : Byte) : (s.setP v).d = s.d := rfl
@[simp] theorem State.setP_dbr (v : Byte) : (s.setP v).dbr = s.dbr := rfl
@[simp] theorem State.setP_pbr (v : Byte) : (s.setP v).pbr = s.pbr := rfl
@[simp] theorem State.setP_pc (v : Byte) : (s.setP v).pc = s.pc := rfl
@[simp] theorem State.setP_p (v : Byte) : (s.setP v).p = statusValue s.e v := rfl
@[simp] theorem State.setP_e (v : Byte) : (s.setP v).e = s.e := rfl
@[simp] theorem State.setP_run (v : Byte) : (s.setP v).run = s.run := rfl
@[simp] theorem State.setP_irqLine (v : Byte) : (s.setP v).irqLine = s.irqLine := rfl
@[simp] theorem State.setP_nmiLine (v : Byte) : (s.setP v).nmiLine = s.nmiLine := rfl
@[simp] theorem State.setP_nmiPending (v : Byte) : (s.setP v).nmiPending = s.nmiPending := rfl
@[simp] theorem State.setP_resetLine (v : Byte) : (s.setP v).resetLine = s.resetLine := rfl
@[simp] theorem State.setP_inputs (v : Byte) : (s.setP v).inputs = s.inputs := rfl
@[simp] theorem State.setP_time (v : Byte) : (s.setP v).time = s.time := rfl
@[simp] theorem State.setP_mem (v : Byte) : (s.setP v).mem = s.mem := rfl

@[simp] theorem State.advance_cfg (n : Nat) : (s.advance n).cfg = s.cfg := rfl
@[simp] theorem State.advance_c (n : Nat) : (s.advance n).c = s.c := rfl
@[simp] theorem State.advance_x (n : Nat) : (s.advance n).x = s.x := rfl
@[simp] theorem State.advance_y (n : Nat) : (s.advance n).y = s.y := rfl
@[simp] theorem State.advance_s (n : Nat) : (s.advance n).s = s.s := rfl
@[simp] theorem State.advance_d (n : Nat) : (s.advance n).d = s.d := rfl
@[simp] theorem State.advance_dbr (n : Nat) : (s.advance n).dbr = s.dbr := rfl
@[simp] theorem State.advance_pbr (n : Nat) : (s.advance n).pbr = s.pbr := rfl
@[simp] theorem State.advance_pc (n : Nat) : (s.advance n).pc = s.pc + BitVec.ofNat 16 n := rfl
@[simp] theorem State.advance_p (n : Nat) : (s.advance n).p = s.p := rfl
@[simp] theorem State.advance_e (n : Nat) : (s.advance n).e = s.e := rfl
@[simp] theorem State.advance_run (n : Nat) : (s.advance n).run = s.run := rfl
@[simp] theorem State.advance_irqLine (n : Nat) : (s.advance n).irqLine = s.irqLine := rfl
@[simp] theorem State.advance_nmiLine (n : Nat) : (s.advance n).nmiLine = s.nmiLine := rfl
@[simp] theorem State.advance_nmiPending (n : Nat) : (s.advance n).nmiPending = s.nmiPending := rfl
@[simp] theorem State.advance_resetLine (n : Nat) : (s.advance n).resetLine = s.resetLine := rfl
@[simp] theorem State.advance_inputs (n : Nat) : (s.advance n).inputs = s.inputs := rfl
@[simp] theorem State.advance_time (n : Nat) : (s.advance n).time = s.time := rfl
@[simp] theorem State.advance_mem (n : Nat) : (s.advance n).mem = s.mem := rfl

@[simp] theorem State.jump_cfg (v : Word) : (s.jump v).cfg = s.cfg := rfl
@[simp] theorem State.jump_c (v : Word) : (s.jump v).c = s.c := rfl
@[simp] theorem State.jump_x (v : Word) : (s.jump v).x = s.x := rfl
@[simp] theorem State.jump_y (v : Word) : (s.jump v).y = s.y := rfl
@[simp] theorem State.jump_s (v : Word) : (s.jump v).s = s.s := rfl
@[simp] theorem State.jump_d (v : Word) : (s.jump v).d = s.d := rfl
@[simp] theorem State.jump_dbr (v : Word) : (s.jump v).dbr = s.dbr := rfl
@[simp] theorem State.jump_pbr (v : Word) : (s.jump v).pbr = s.pbr := rfl
@[simp] theorem State.jump_pc (v : Word) : (s.jump v).pc = v := rfl
@[simp] theorem State.jump_p (v : Word) : (s.jump v).p = s.p := rfl
@[simp] theorem State.jump_e (v : Word) : (s.jump v).e = s.e := rfl
@[simp] theorem State.jump_run (v : Word) : (s.jump v).run = s.run := rfl
@[simp] theorem State.jump_irqLine (v : Word) : (s.jump v).irqLine = s.irqLine := rfl
@[simp] theorem State.jump_nmiLine (v : Word) : (s.jump v).nmiLine = s.nmiLine := rfl
@[simp] theorem State.jump_nmiPending (v : Word) : (s.jump v).nmiPending = s.nmiPending := rfl
@[simp] theorem State.jump_resetLine (v : Word) : (s.jump v).resetLine = s.resetLine := rfl
@[simp] theorem State.jump_inputs (v : Word) : (s.jump v).inputs = s.inputs := rfl
@[simp] theorem State.jump_time (v : Word) : (s.jump v).time = s.time := rfl
@[simp] theorem State.jump_mem (v : Word) : (s.jump v).mem = s.mem := rfl

@[simp] theorem State.jumpLong_cfg (b : Byte) (v : Word) : (s.jumpLong b v).cfg = s.cfg := rfl
@[simp] theorem State.jumpLong_c (b : Byte) (v : Word) : (s.jumpLong b v).c = s.c := rfl
@[simp] theorem State.jumpLong_x (b : Byte) (v : Word) : (s.jumpLong b v).x = s.x := rfl
@[simp] theorem State.jumpLong_y (b : Byte) (v : Word) : (s.jumpLong b v).y = s.y := rfl
@[simp] theorem State.jumpLong_s (b : Byte) (v : Word) : (s.jumpLong b v).s = s.s := rfl
@[simp] theorem State.jumpLong_d (b : Byte) (v : Word) : (s.jumpLong b v).d = s.d := rfl
@[simp] theorem State.jumpLong_dbr (b : Byte) (v : Word) : (s.jumpLong b v).dbr = s.dbr := rfl
@[simp] theorem State.jumpLong_pbr (b : Byte) (v : Word) : (s.jumpLong b v).pbr = b := rfl
@[simp] theorem State.jumpLong_pc (b : Byte) (v : Word) : (s.jumpLong b v).pc = v := rfl
@[simp] theorem State.jumpLong_p (b : Byte) (v : Word) : (s.jumpLong b v).p = s.p := rfl
@[simp] theorem State.jumpLong_e (b : Byte) (v : Word) : (s.jumpLong b v).e = s.e := rfl
@[simp] theorem State.jumpLong_run (b : Byte) (v : Word) : (s.jumpLong b v).run = s.run := rfl
@[simp] theorem State.jumpLong_irqLine (b : Byte) (v : Word) : (s.jumpLong b v).irqLine = s.irqLine := rfl
@[simp] theorem State.jumpLong_nmiLine (b : Byte) (v : Word) : (s.jumpLong b v).nmiLine = s.nmiLine := rfl
@[simp] theorem State.jumpLong_nmiPending (b : Byte) (v : Word) : (s.jumpLong b v).nmiPending = s.nmiPending := rfl
@[simp] theorem State.jumpLong_resetLine (b : Byte) (v : Word) : (s.jumpLong b v).resetLine = s.resetLine := rfl
@[simp] theorem State.jumpLong_inputs (b : Byte) (v : Word) : (s.jumpLong b v).inputs = s.inputs := rfl
@[simp] theorem State.jumpLong_time (b : Byte) (v : Word) : (s.jumpLong b v).time = s.time := rfl
@[simp] theorem State.jumpLong_mem (b : Byte) (v : Word) : (s.jumpLong b v).mem = s.mem := rfl

@[simp] theorem State.setNZ_cfg (w : Width) (v : Word) : (s.setNZ w v).cfg = s.cfg := rfl
@[simp] theorem State.setNZ_c (w : Width) (v : Word) : (s.setNZ w v).c = s.c := rfl
@[simp] theorem State.setNZ_x (w : Width) (v : Word) : (s.setNZ w v).x = s.x := rfl
@[simp] theorem State.setNZ_y (w : Width) (v : Word) : (s.setNZ w v).y = s.y := rfl
@[simp] theorem State.setNZ_s (w : Width) (v : Word) : (s.setNZ w v).s = s.s := rfl
@[simp] theorem State.setNZ_d (w : Width) (v : Word) : (s.setNZ w v).d = s.d := rfl
@[simp] theorem State.setNZ_dbr (w : Width) (v : Word) : (s.setNZ w v).dbr = s.dbr := rfl
@[simp] theorem State.setNZ_pbr (w : Width) (v : Word) : (s.setNZ w v).pbr = s.pbr := rfl
@[simp] theorem State.setNZ_pc (w : Width) (v : Word) : (s.setNZ w v).pc = s.pc := rfl
@[simp] theorem State.setNZ_p (w : Width) (v : Word) :
    (s.setNZ w v).p = setFlagIn (setFlagIn s.p .n (msb w v)) .z (narrow w v == 0#16) := rfl
@[simp] theorem State.setNZ_e (w : Width) (v : Word) : (s.setNZ w v).e = s.e := rfl
@[simp] theorem State.setNZ_run (w : Width) (v : Word) : (s.setNZ w v).run = s.run := rfl
@[simp] theorem State.setNZ_irqLine (w : Width) (v : Word) : (s.setNZ w v).irqLine = s.irqLine := rfl
@[simp] theorem State.setNZ_nmiLine (w : Width) (v : Word) : (s.setNZ w v).nmiLine = s.nmiLine := rfl
@[simp] theorem State.setNZ_nmiPending (w : Width) (v : Word) : (s.setNZ w v).nmiPending = s.nmiPending := rfl
@[simp] theorem State.setNZ_resetLine (w : Width) (v : Word) : (s.setNZ w v).resetLine = s.resetLine := rfl
@[simp] theorem State.setNZ_inputs (w : Width) (v : Word) : (s.setNZ w v).inputs = s.inputs := rfl
@[simp] theorem State.setNZ_time (w : Width) (v : Word) : (s.setNZ w v).time = s.time := rfl
@[simp] theorem State.setNZ_mem (w : Width) (v : Word) : (s.setNZ w v).mem = s.mem := rfl

@[simp] theorem State.setTestZ_cfg (a m : Word) : (s.setTestZ a m).cfg = s.cfg := rfl
@[simp] theorem State.setTestZ_c (a m : Word) : (s.setTestZ a m).c = s.c := rfl
@[simp] theorem State.setTestZ_x (a m : Word) : (s.setTestZ a m).x = s.x := rfl
@[simp] theorem State.setTestZ_y (a m : Word) : (s.setTestZ a m).y = s.y := rfl
@[simp] theorem State.setTestZ_s (a m : Word) : (s.setTestZ a m).s = s.s := rfl
@[simp] theorem State.setTestZ_d (a m : Word) : (s.setTestZ a m).d = s.d := rfl
@[simp] theorem State.setTestZ_dbr (a m : Word) : (s.setTestZ a m).dbr = s.dbr := rfl
@[simp] theorem State.setTestZ_pbr (a m : Word) : (s.setTestZ a m).pbr = s.pbr := rfl
@[simp] theorem State.setTestZ_pc (a m : Word) : (s.setTestZ a m).pc = s.pc := rfl
@[simp] theorem State.setTestZ_p (a m : Word) : (s.setTestZ a m).p = setFlagIn s.p .z (a &&& m == 0#16) := rfl
@[simp] theorem State.setTestZ_e (a m : Word) : (s.setTestZ a m).e = s.e := rfl
@[simp] theorem State.setTestZ_run (a m : Word) : (s.setTestZ a m).run = s.run := rfl
@[simp] theorem State.setTestZ_irqLine (a m : Word) : (s.setTestZ a m).irqLine = s.irqLine := rfl
@[simp] theorem State.setTestZ_nmiLine (a m : Word) : (s.setTestZ a m).nmiLine = s.nmiLine := rfl
@[simp] theorem State.setTestZ_nmiPending (a m : Word) : (s.setTestZ a m).nmiPending = s.nmiPending := rfl
@[simp] theorem State.setTestZ_resetLine (a m : Word) : (s.setTestZ a m).resetLine = s.resetLine := rfl
@[simp] theorem State.setTestZ_inputs (a m : Word) : (s.setTestZ a m).inputs = s.inputs := rfl
@[simp] theorem State.setTestZ_time (a m : Word) : (s.setTestZ a m).time = s.time := rfl
@[simp] theorem State.setTestZ_mem (a m : Word) : (s.setTestZ a m).mem = s.mem := rfl

@[simp] theorem State.setShift_cfg (w : Width) (r : ShiftOut) : (s.setShift w r).cfg = s.cfg := rfl
@[simp] theorem State.setShift_c (w : Width) (r : ShiftOut) : (s.setShift w r).c = s.c := rfl
@[simp] theorem State.setShift_x (w : Width) (r : ShiftOut) : (s.setShift w r).x = s.x := rfl
@[simp] theorem State.setShift_y (w : Width) (r : ShiftOut) : (s.setShift w r).y = s.y := rfl
@[simp] theorem State.setShift_s (w : Width) (r : ShiftOut) : (s.setShift w r).s = s.s := rfl
@[simp] theorem State.setShift_d (w : Width) (r : ShiftOut) : (s.setShift w r).d = s.d := rfl
@[simp] theorem State.setShift_dbr (w : Width) (r : ShiftOut) : (s.setShift w r).dbr = s.dbr := rfl
@[simp] theorem State.setShift_pbr (w : Width) (r : ShiftOut) : (s.setShift w r).pbr = s.pbr := rfl
@[simp] theorem State.setShift_pc (w : Width) (r : ShiftOut) : (s.setShift w r).pc = s.pc := rfl
@[simp] theorem State.setShift_p (w : Width) (r : ShiftOut) :
    (s.setShift w r).p = setFlagIn (s.setNZ w r.r).p .c r.c := rfl
@[simp] theorem State.setShift_e (w : Width) (r : ShiftOut) : (s.setShift w r).e = s.e := rfl
@[simp] theorem State.setShift_run (w : Width) (r : ShiftOut) : (s.setShift w r).run = s.run := rfl
@[simp] theorem State.setShift_irqLine (w : Width) (r : ShiftOut) : (s.setShift w r).irqLine = s.irqLine := rfl
@[simp] theorem State.setShift_nmiLine (w : Width) (r : ShiftOut) : (s.setShift w r).nmiLine = s.nmiLine := rfl
@[simp] theorem State.setShift_nmiPending (w : Width) (r : ShiftOut) :
    (s.setShift w r).nmiPending = s.nmiPending := rfl
@[simp] theorem State.setShift_resetLine (w : Width) (r : ShiftOut) : (s.setShift w r).resetLine = s.resetLine := rfl
@[simp] theorem State.setShift_inputs (w : Width) (r : ShiftOut) : (s.setShift w r).inputs = s.inputs := rfl
@[simp] theorem State.setShift_time (w : Width) (r : ShiftOut) : (s.setShift w r).time = s.time := rfl
@[simp] theorem State.setShift_mem (w : Width) (r : ShiftOut) : (s.setShift w r).mem = s.mem := rfl

@[simp] theorem State.setCompare_cfg (w : Width) (a m : Word) : (s.setCompare w a m).cfg = s.cfg := rfl
@[simp] theorem State.setCompare_c (w : Width) (a m : Word) : (s.setCompare w a m).c = s.c := rfl
@[simp] theorem State.setCompare_x (w : Width) (a m : Word) : (s.setCompare w a m).x = s.x := rfl
@[simp] theorem State.setCompare_y (w : Width) (a m : Word) : (s.setCompare w a m).y = s.y := rfl
@[simp] theorem State.setCompare_s (w : Width) (a m : Word) : (s.setCompare w a m).s = s.s := rfl
@[simp] theorem State.setCompare_d (w : Width) (a m : Word) : (s.setCompare w a m).d = s.d := rfl
@[simp] theorem State.setCompare_dbr (w : Width) (a m : Word) : (s.setCompare w a m).dbr = s.dbr := rfl
@[simp] theorem State.setCompare_pbr (w : Width) (a m : Word) : (s.setCompare w a m).pbr = s.pbr := rfl
@[simp] theorem State.setCompare_pc (w : Width) (a m : Word) : (s.setCompare w a m).pc = s.pc := rfl
@[simp] theorem State.setCompare_p (w : Width) (a m : Word) :
    (s.setCompare w a m).p = setFlagIn (s.setNZ w (narrow w (a - m))).p .c (decide (m.toNat ≤ a.toNat)) := rfl
@[simp] theorem State.setCompare_e (w : Width) (a m : Word) : (s.setCompare w a m).e = s.e := rfl
@[simp] theorem State.setCompare_run (w : Width) (a m : Word) : (s.setCompare w a m).run = s.run := rfl
@[simp] theorem State.setCompare_irqLine (w : Width) (a m : Word) : (s.setCompare w a m).irqLine = s.irqLine := rfl
@[simp] theorem State.setCompare_nmiLine (w : Width) (a m : Word) : (s.setCompare w a m).nmiLine = s.nmiLine := rfl
@[simp] theorem State.setCompare_nmiPending (w : Width) (a m : Word) :
    (s.setCompare w a m).nmiPending = s.nmiPending := rfl
@[simp] theorem State.setCompare_resetLine (w : Width) (a m : Word) :
    (s.setCompare w a m).resetLine = s.resetLine := rfl
@[simp] theorem State.setCompare_inputs (w : Width) (a m : Word) : (s.setCompare w a m).inputs = s.inputs := rfl
@[simp] theorem State.setCompare_time (w : Width) (a m : Word) : (s.setCompare w a m).time = s.time := rfl
@[simp] theorem State.setCompare_mem (w : Width) (a m : Word) : (s.setCompare w a m).mem = s.mem := rfl

@[simp] theorem State.setAddFlags_cfg (o : AddOut) : (s.setAddFlags o).cfg = s.cfg := rfl
@[simp] theorem State.setAddFlags_c (o : AddOut) : (s.setAddFlags o).c = s.c := rfl
@[simp] theorem State.setAddFlags_x (o : AddOut) : (s.setAddFlags o).x = s.x := rfl
@[simp] theorem State.setAddFlags_y (o : AddOut) : (s.setAddFlags o).y = s.y := rfl
@[simp] theorem State.setAddFlags_s (o : AddOut) : (s.setAddFlags o).s = s.s := rfl
@[simp] theorem State.setAddFlags_d (o : AddOut) : (s.setAddFlags o).d = s.d := rfl
@[simp] theorem State.setAddFlags_dbr (o : AddOut) : (s.setAddFlags o).dbr = s.dbr := rfl
@[simp] theorem State.setAddFlags_pbr (o : AddOut) : (s.setAddFlags o).pbr = s.pbr := rfl
@[simp] theorem State.setAddFlags_pc (o : AddOut) : (s.setAddFlags o).pc = s.pc := rfl
@[simp] theorem State.setAddFlags_p (o : AddOut) :
    (s.setAddFlags o).p = setFlagIn (setFlagIn (setFlagIn (setFlagIn s.p .n o.n) .v o.v) .z o.z) .c o.c := rfl
@[simp] theorem State.setAddFlags_e (o : AddOut) : (s.setAddFlags o).e = s.e := rfl
@[simp] theorem State.setAddFlags_run (o : AddOut) : (s.setAddFlags o).run = s.run := rfl
@[simp] theorem State.setAddFlags_irqLine (o : AddOut) : (s.setAddFlags o).irqLine = s.irqLine := rfl
@[simp] theorem State.setAddFlags_nmiLine (o : AddOut) : (s.setAddFlags o).nmiLine = s.nmiLine := rfl
@[simp] theorem State.setAddFlags_nmiPending (o : AddOut) : (s.setAddFlags o).nmiPending = s.nmiPending := rfl
@[simp] theorem State.setAddFlags_resetLine (o : AddOut) : (s.setAddFlags o).resetLine = s.resetLine := rfl
@[simp] theorem State.setAddFlags_inputs (o : AddOut) : (s.setAddFlags o).inputs = s.inputs := rfl
@[simp] theorem State.setAddFlags_time (o : AddOut) : (s.setAddFlags o).time = s.time := rfl
@[simp] theorem State.setAddFlags_mem (o : AddOut) : (s.setAddFlags o).mem = s.mem := rfl

@[simp] theorem State.push8_cfg (v : Byte) : (s.push8 v).cfg = s.cfg := rfl
@[simp] theorem State.push8_c (v : Byte) : (s.push8 v).c = s.c := rfl
@[simp] theorem State.push8_x (v : Byte) : (s.push8 v).x = s.x := rfl
@[simp] theorem State.push8_y (v : Byte) : (s.push8 v).y = s.y := rfl
@[simp] theorem State.push8_s (v : Byte) : (s.push8 v).s = stackValue s.e (s.s - 1#16) := rfl
@[simp] theorem State.push8_d (v : Byte) : (s.push8 v).d = s.d := rfl
@[simp] theorem State.push8_dbr (v : Byte) : (s.push8 v).dbr = s.dbr := rfl
@[simp] theorem State.push8_pbr (v : Byte) : (s.push8 v).pbr = s.pbr := rfl
@[simp] theorem State.push8_pc (v : Byte) : (s.push8 v).pc = s.pc := rfl
@[simp] theorem State.push8_p (v : Byte) : (s.push8 v).p = s.p := rfl
@[simp] theorem State.push8_e (v : Byte) : (s.push8 v).e = s.e := rfl
@[simp] theorem State.push8_run (v : Byte) : (s.push8 v).run = s.run := rfl
@[simp] theorem State.push8_irqLine (v : Byte) : (s.push8 v).irqLine = s.irqLine := rfl
@[simp] theorem State.push8_nmiLine (v : Byte) : (s.push8 v).nmiLine = s.nmiLine := rfl
@[simp] theorem State.push8_nmiPending (v : Byte) : (s.push8 v).nmiPending = s.nmiPending := rfl
@[simp] theorem State.push8_resetLine (v : Byte) : (s.push8 v).resetLine = s.resetLine := rfl
@[simp] theorem State.push8_inputs (v : Byte) : (s.push8 v).inputs = s.inputs := rfl
@[simp] theorem State.push8_time (v : Byte) : (s.push8 v).time = s.time := rfl
@[simp] theorem State.push8_mem (v : Byte) : (s.push8 v).mem = (s.write (b0 s.s) v).mem := rfl

@[simp] theorem State.push16_cfg (v : Word) : (s.push16 v).cfg = s.cfg := rfl
@[simp] theorem State.push16_c (v : Word) : (s.push16 v).c = s.c := rfl
@[simp] theorem State.push16_x (v : Word) : (s.push16 v).x = s.x := rfl
@[simp] theorem State.push16_y (v : Word) : (s.push16 v).y = s.y := rfl
@[simp] theorem State.push16_s (v : Word) :
    (s.push16 v).s = stackValue s.e (stackValue s.e (s.s - 1#16) - 1#16) := rfl
@[simp] theorem State.push16_d (v : Word) : (s.push16 v).d = s.d := rfl
@[simp] theorem State.push16_dbr (v : Word) : (s.push16 v).dbr = s.dbr := rfl
@[simp] theorem State.push16_pbr (v : Word) : (s.push16 v).pbr = s.pbr := rfl
@[simp] theorem State.push16_pc (v : Word) : (s.push16 v).pc = s.pc := rfl
@[simp] theorem State.push16_p (v : Word) : (s.push16 v).p = s.p := rfl
@[simp] theorem State.push16_e (v : Word) : (s.push16 v).e = s.e := rfl
@[simp] theorem State.push16_run (v : Word) : (s.push16 v).run = s.run := rfl
@[simp] theorem State.push16_irqLine (v : Word) : (s.push16 v).irqLine = s.irqLine := rfl
@[simp] theorem State.push16_nmiLine (v : Word) : (s.push16 v).nmiLine = s.nmiLine := rfl
@[simp] theorem State.push16_nmiPending (v : Word) : (s.push16 v).nmiPending = s.nmiPending := rfl
@[simp] theorem State.push16_resetLine (v : Word) : (s.push16 v).resetLine = s.resetLine := rfl
@[simp] theorem State.push16_inputs (v : Word) : (s.push16 v).inputs = s.inputs := rfl
@[simp] theorem State.push16_time (v : Word) : (s.push16 v).time = s.time := rfl

@[simp] theorem State.pulled_cfg : (s.pulled).cfg = s.cfg := rfl
@[simp] theorem State.pulled_c : (s.pulled).c = s.c := rfl
@[simp] theorem State.pulled_x : (s.pulled).x = s.x := rfl
@[simp] theorem State.pulled_y : (s.pulled).y = s.y := rfl
@[simp] theorem State.pulled_s : (s.pulled).s = stackValue s.e (s.s + 1#16) := rfl
@[simp] theorem State.pulled_d : (s.pulled).d = s.d := rfl
@[simp] theorem State.pulled_dbr : (s.pulled).dbr = s.dbr := rfl
@[simp] theorem State.pulled_pbr : (s.pulled).pbr = s.pbr := rfl
@[simp] theorem State.pulled_pc : (s.pulled).pc = s.pc := rfl
@[simp] theorem State.pulled_p : (s.pulled).p = s.p := rfl
@[simp] theorem State.pulled_e : (s.pulled).e = s.e := rfl
@[simp] theorem State.pulled_run : (s.pulled).run = s.run := rfl
@[simp] theorem State.pulled_irqLine : (s.pulled).irqLine = s.irqLine := rfl
@[simp] theorem State.pulled_nmiLine : (s.pulled).nmiLine = s.nmiLine := rfl
@[simp] theorem State.pulled_nmiPending : (s.pulled).nmiPending = s.nmiPending := rfl
@[simp] theorem State.pulled_resetLine : (s.pulled).resetLine = s.resetLine := rfl
@[simp] theorem State.pulled_inputs : (s.pulled).inputs = s.inputs := rfl
@[simp] theorem State.pulled_time : (s.pulled).time = s.time := rfl
@[simp] theorem State.pulled_mem : (s.pulled).mem = s.mem := rfl

@[simp] theorem State.wake_cfg : (s.wake).cfg = s.cfg := rfl
@[simp] theorem State.wake_c : (s.wake).c = s.c := rfl
@[simp] theorem State.wake_x : (s.wake).x = s.x := rfl
@[simp] theorem State.wake_y : (s.wake).y = s.y := rfl
@[simp] theorem State.wake_s : (s.wake).s = s.s := rfl
@[simp] theorem State.wake_d : (s.wake).d = s.d := rfl
@[simp] theorem State.wake_dbr : (s.wake).dbr = s.dbr := rfl
@[simp] theorem State.wake_pbr : (s.wake).pbr = s.pbr := rfl
@[simp] theorem State.wake_pc : (s.wake).pc = s.pc := rfl
@[simp] theorem State.wake_p : (s.wake).p = s.p := rfl
@[simp] theorem State.wake_e : (s.wake).e = s.e := rfl
@[simp] theorem State.wake_run : (s.wake).run = .running := rfl
@[simp] theorem State.wake_irqLine : (s.wake).irqLine = s.irqLine := rfl
@[simp] theorem State.wake_nmiLine : (s.wake).nmiLine = s.nmiLine := rfl
@[simp] theorem State.wake_nmiPending : (s.wake).nmiPending = s.nmiPending := rfl
@[simp] theorem State.wake_resetLine : (s.wake).resetLine = s.resetLine := rfl
@[simp] theorem State.wake_inputs : (s.wake).inputs = s.inputs := rfl
@[simp] theorem State.wake_time : (s.wake).time = s.time := rfl
@[simp] theorem State.wake_mem : (s.wake).mem = s.mem := rfl

@[simp] theorem State.sampleInputs_cfg : (s.sampleInputs).cfg = s.cfg := rfl
@[simp] theorem State.sampleInputs_c : (s.sampleInputs).c = s.c := rfl
@[simp] theorem State.sampleInputs_x : (s.sampleInputs).x = s.x := rfl
@[simp] theorem State.sampleInputs_y : (s.sampleInputs).y = s.y := rfl
@[simp] theorem State.sampleInputs_s : (s.sampleInputs).s = s.s := rfl
@[simp] theorem State.sampleInputs_d : (s.sampleInputs).d = s.d := rfl
@[simp] theorem State.sampleInputs_dbr : (s.sampleInputs).dbr = s.dbr := rfl
@[simp] theorem State.sampleInputs_pbr : (s.sampleInputs).pbr = s.pbr := rfl
@[simp] theorem State.sampleInputs_pc : (s.sampleInputs).pc = s.pc := rfl
@[simp] theorem State.sampleInputs_p : (s.sampleInputs).p = s.p := rfl
@[simp] theorem State.sampleInputs_e : (s.sampleInputs).e = s.e := rfl
@[simp] theorem State.sampleInputs_run : (s.sampleInputs).run = s.run := rfl
@[simp] theorem State.sampleInputs_irqLine : (s.sampleInputs).irqLine = s.levels.irq := rfl
@[simp] theorem State.sampleInputs_nmiLine : (s.sampleInputs).nmiLine = s.levels.nmi := rfl
@[simp] theorem State.sampleInputs_nmiPending :
    (s.sampleInputs).nmiPending = (s.nmiPending || (s.levels.nmi && !s.nmiLine && decide (s.run ≠ .stopped))) := rfl
@[simp] theorem State.sampleInputs_resetLine : (s.sampleInputs).resetLine = s.levels.reset := rfl
@[simp] theorem State.sampleInputs_inputs : (s.sampleInputs).inputs = s.inputs.tail := rfl
@[simp] theorem State.sampleInputs_time : (s.sampleInputs).time = s.time + 1 := rfl
@[simp] theorem State.sampleInputs_mem : (s.sampleInputs).mem = s.mem := rfl

@[simp] theorem State.withInputs_cfg (b : Bool) : (s.withInputs b).cfg = s.cfg := rfl
@[simp] theorem State.withInputs_c (b : Bool) : (s.withInputs b).c = s.c := rfl
@[simp] theorem State.withInputs_x (b : Bool) : (s.withInputs b).x = s.x := rfl
@[simp] theorem State.withInputs_y (b : Bool) : (s.withInputs b).y = s.y := rfl
@[simp] theorem State.withInputs_s (b : Bool) : (s.withInputs b).s = s.s := rfl
@[simp] theorem State.withInputs_d (b : Bool) : (s.withInputs b).d = s.d := rfl
@[simp] theorem State.withInputs_dbr (b : Bool) : (s.withInputs b).dbr = s.dbr := rfl
@[simp] theorem State.withInputs_pbr (b : Bool) : (s.withInputs b).pbr = s.pbr := rfl
@[simp] theorem State.withInputs_pc (b : Bool) : (s.withInputs b).pc = s.pc := rfl
@[simp] theorem State.withInputs_p (b : Bool) : (s.withInputs b).p = s.p := rfl
@[simp] theorem State.withInputs_e (b : Bool) : (s.withInputs b).e = s.e := rfl
@[simp] theorem State.withInputs_run (b : Bool) : (s.withInputs b).run = s.run := rfl
@[simp] theorem State.withInputs_irqLine (b : Bool) : (s.withInputs b).irqLine = s.levels.irq := rfl
@[simp] theorem State.withInputs_nmiLine (b : Bool) : (s.withInputs b).nmiLine = s.levels.nmi := rfl
@[simp] theorem State.withInputs_nmiPending (b : Bool) : (s.withInputs b).nmiPending = b := rfl
@[simp] theorem State.withInputs_resetLine (b : Bool) : (s.withInputs b).resetLine = s.levels.reset := rfl
@[simp] theorem State.withInputs_inputs (b : Bool) : (s.withInputs b).inputs = s.inputs.tail := rfl
@[simp] theorem State.withInputs_time (b : Bool) : (s.withInputs b).time = s.time + 1 := rfl
@[simp] theorem State.withInputs_mem (b : Bool) : (s.withInputs b).mem = s.mem := rfl

/-! ## Derived reads: flags, widths and memory under updates that do not touch them -/

@[simp] theorem State.setFlag_read (f : Flag) (b : Bool) (k : AccessKind) (q : Addr) : (s.setFlag f b).read k q = s.read k q := rfl
@[simp] theorem State.write_flag (a : Addr) (v : Byte) (g : Flag) : (s.write a v).flag g = s.flag g := rfl
@[simp] theorem State.write_wA (a : Addr) (v : Byte) : (s.write a v).wA = s.wA := rfl
@[simp] theorem State.write_wX (a : Addr) (v : Byte) : (s.write a v).wX = s.wX := rfl
@[simp] theorem State.setAcc_flag (w : Width) (v : Word) (g : Flag) : (s.setAcc w v).flag g = s.flag g := rfl
@[simp] theorem State.setAcc_wA (w : Width) (v : Word) : (s.setAcc w v).wA = s.wA := rfl
@[simp] theorem State.setAcc_wX (w : Width) (v : Word) : (s.setAcc w v).wX = s.wX := rfl
@[simp] theorem State.setAcc_read (w : Width) (v : Word) (k : AccessKind) (q : Addr) : (s.setAcc w v).read k q = s.read k q := rfl
@[simp] theorem State.setIdx_flag (r : IndexReg) (w : Width) (v : Word) (g : Flag) : (s.setIdx r w v).flag g = s.flag g := rfl
@[simp] theorem State.setIdx_wA (r : IndexReg) (w : Width) (v : Word) : (s.setIdx r w v).wA = s.wA := rfl
@[simp] theorem State.setIdx_wX (r : IndexReg) (w : Width) (v : Word) : (s.setIdx r w v).wX = s.wX := rfl
@[simp] theorem State.setIdx_read (r : IndexReg) (w : Width) (v : Word) (k : AccessKind) (q : Addr) : (s.setIdx r w v).read k q = s.read k q := rfl
@[simp] theorem State.setS_flag (v : Word) (g : Flag) : (s.setS v).flag g = s.flag g := rfl
@[simp] theorem State.setS_wA (v : Word) : (s.setS v).wA = s.wA := rfl
@[simp] theorem State.setS_wX (v : Word) : (s.setS v).wX = s.wX := rfl
@[simp] theorem State.setS_read (v : Word) (k : AccessKind) (q : Addr) : (s.setS v).read k q = s.read k q := rfl
@[simp] theorem State.setP_read (v : Byte) (k : AccessKind) (q : Addr) : (s.setP v).read k q = s.read k q := rfl
@[simp] theorem State.advance_flag (n : Nat) (g : Flag) : (s.advance n).flag g = s.flag g := rfl
@[simp] theorem State.advance_wA (n : Nat) : (s.advance n).wA = s.wA := rfl
@[simp] theorem State.advance_wX (n : Nat) : (s.advance n).wX = s.wX := rfl
@[simp] theorem State.advance_read (n : Nat) (k : AccessKind) (q : Addr) : (s.advance n).read k q = s.read k q := rfl
@[simp] theorem State.jump_flag (v : Word) (g : Flag) : (s.jump v).flag g = s.flag g := rfl
@[simp] theorem State.jump_wA (v : Word) : (s.jump v).wA = s.wA := rfl
@[simp] theorem State.jump_wX (v : Word) : (s.jump v).wX = s.wX := rfl
@[simp] theorem State.jump_read (v : Word) (k : AccessKind) (q : Addr) : (s.jump v).read k q = s.read k q := rfl
@[simp] theorem State.jumpLong_flag (b : Byte) (v : Word) (g : Flag) : (s.jumpLong b v).flag g = s.flag g := rfl
@[simp] theorem State.jumpLong_wA (b : Byte) (v : Word) : (s.jumpLong b v).wA = s.wA := rfl
@[simp] theorem State.jumpLong_wX (b : Byte) (v : Word) : (s.jumpLong b v).wX = s.wX := rfl
@[simp] theorem State.jumpLong_read (b : Byte) (v : Word) (k : AccessKind) (q : Addr) : (s.jumpLong b v).read k q = s.read k q := rfl
@[simp] theorem State.setNZ_read (w : Width) (v : Word) (k : AccessKind) (q : Addr) : (s.setNZ w v).read k q = s.read k q := rfl
@[simp] theorem State.setTestZ_read (a m : Word) (k : AccessKind) (q : Addr) : (s.setTestZ a m).read k q = s.read k q := rfl
@[simp] theorem State.setShift_read (w : Width) (r : ShiftOut) (k : AccessKind) (q : Addr) : (s.setShift w r).read k q = s.read k q := rfl
@[simp] theorem State.setCompare_read (w : Width) (a m : Word) (k : AccessKind) (q : Addr) : (s.setCompare w a m).read k q = s.read k q := rfl
@[simp] theorem State.setAddFlags_read (o : AddOut) (k : AccessKind) (q : Addr) : (s.setAddFlags o).read k q = s.read k q := rfl
@[simp] theorem State.push8_flag (v : Byte) (g : Flag) : (s.push8 v).flag g = s.flag g := rfl
@[simp] theorem State.push8_wA (v : Byte) : (s.push8 v).wA = s.wA := rfl
@[simp] theorem State.push8_wX (v : Byte) : (s.push8 v).wX = s.wX := rfl
@[simp] theorem State.push16_flag (v : Word) (g : Flag) : (s.push16 v).flag g = s.flag g := rfl
@[simp] theorem State.push16_wA (v : Word) : (s.push16 v).wA = s.wA := rfl
@[simp] theorem State.push16_wX (v : Word) : (s.push16 v).wX = s.wX := rfl
@[simp] theorem State.pulled_flag (g : Flag) : (s.pulled).flag g = s.flag g := rfl
@[simp] theorem State.pulled_wA : (s.pulled).wA = s.wA := rfl
@[simp] theorem State.pulled_wX : (s.pulled).wX = s.wX := rfl
@[simp] theorem State.pulled_read (k : AccessKind) (q : Addr) : (s.pulled).read k q = s.read k q := rfl
@[simp] theorem State.wake_flag (g : Flag) : (s.wake).flag g = s.flag g := rfl
@[simp] theorem State.wake_wA : (s.wake).wA = s.wA := rfl
@[simp] theorem State.wake_wX : (s.wake).wX = s.wX := rfl
@[simp] theorem State.wake_read (k : AccessKind) (q : Addr) : (s.wake).read k q = s.read k q := rfl
@[simp] theorem State.sampleInputs_flag (g : Flag) : (s.sampleInputs).flag g = s.flag g := rfl
@[simp] theorem State.sampleInputs_wA : (s.sampleInputs).wA = s.wA := rfl
@[simp] theorem State.sampleInputs_wX : (s.sampleInputs).wX = s.wX := rfl
@[simp] theorem State.withInputs_flag (b : Bool) (g : Flag) : (s.withInputs b).flag g = s.flag g := rfl
@[simp] theorem State.withInputs_wA (b : Bool) : (s.withInputs b).wA = s.wA := rfl
@[simp] theorem State.withInputs_wX (b : Bool) : (s.withInputs b).wX = s.wX := rfl

end Sys2Proof.Machine
end

