-- ==== Sys2Proof/Laws/Flags.lean ====
section
/-! SUPPORT. What the flag operations do to each flag, and the values at a width as numbers. -/

namespace Sys2Proof.Machine

/-! ## Flags -/

/-- One flag written: it alone changes. -/
theorem getLsbD_setFlagIn (p : Byte) (f g : Flag) (b : Bool) :
    (setFlagIn p f b).getLsbD g.bit = if g = f then b else p.getLsbD g.bit := by
  cases b <;> cases f <;> cases g <;> simp [setFlagIn, Flag.mask, Flag.bit]

@[simp] theorem State.flag_setFlag (s : State) (f g : Flag) (b : Bool) :
    (s.setFlag f b).flag g = if g = f then b else s.flag g := getLsbD_setFlagIn s.p f g b

theorem State.flag_of_p {s t : State} (h : t.p = s.p) (g : Flag) : t.flag g = s.flag g := by
  unfold State.flag; rw [h]

theorem msb_eq (w : Width) (v : Word) : msb w v = v.getLsbD (w.bits - 1) := by cases w <;> rfl

theorem nextMsb_eq (w : Width) (v : Word) : nextMsb w v = v.getLsbD (w.bits - 2) := by cases w <;> rfl

theorem State.flag_setNZ (s : State) (w : Width) (v : Word) (g : Flag) :
    (s.setNZ w v).flag g =
      if g = .z then narrow w v == 0#16 else if g = .n then v.getLsbD (w.bits - 1) else s.flag g := by
  simp only [State.setNZ, State.flag_setFlag, msb_eq]

@[simp] theorem State.flag_setTestZ (s : State) (a m : Word) (g : Flag) :
    (s.setTestZ a m).flag g = if g = .z then a &&& m == 0#16 else s.flag g := by
  simp only [State.setTestZ, State.flag_setFlag]

theorem State.flag_setShift (s : State) (w : Width) (r : ShiftOut) (g : Flag) :
    (s.setShift w r).flag g =
      if g = .c then r.c
      else if g = .z then narrow w r.r == 0#16 else if g = .n then r.r.getLsbD (w.bits - 1) else s.flag g := by
  simp only [State.setShift, State.flag_setFlag, State.flag_setNZ]

theorem State.flag_setCompare (s : State) (w : Width) (a m : Word) (g : Flag) :
    (s.setCompare w a m).flag g =
      if g = .c then decide (m.toNat ≤ a.toNat)
      else if g = .z then narrow w (narrow w (a - m)) == 0#16
      else if g = .n then (narrow w (a - m)).getLsbD (w.bits - 1) else s.flag g := by
  simp only [State.setCompare, State.flag_setFlag, State.flag_setNZ]

theorem State.flag_setAddFlags (s : State) (o : AddOut) (g : Flag) :
    (s.setAddFlags o).flag g =
      if g = .c then o.c else if g = .z then o.z else if g = .v then o.v else if g = .n then o.n else s.flag g := by
  simp only [State.setAddFlags, State.flag_setFlag]

/-! ## Values at a width -/

theorem narrow_toNat (w : Width) (v : Word) : (narrow w v).toNat = v.toNat % 2 ^ w.bits := by
  cases w
  · simp only [narrow, BitVec.toNat_and, Width.bits]
    exact Nat.and_two_pow_sub_one_eq_mod v.toNat 8
  · exact (Nat.mod_eq_of_lt v.isLt).symm

theorem lowBits_toNat (w : Width) (v : Word) : (lowBits w v).toNat = v.toNat % 2 ^ w.bits := by
  have := v.isLt
  cases w <;> simp [lowBits, Width.bits]; omega

theorem narrow_eq_lowBits (w : Width) (v : Word) : narrow w v = lowBits w v :=
  BitVec.eq_of_toNat_eq (by rw [narrow_toNat, lowBits_toNat])

@[simp] theorem narrow_narrow (w : Width) (v : Word) : narrow w (narrow w v) = narrow w v :=
  BitVec.eq_of_toNat_eq (by simp only [narrow_toNat, Nat.mod_mod])

/-- A value below 2^w is its own low part. -/
theorem narrow_of_lt (w : Width) (v : Word) (h : v.toNat < 2 ^ w.bits) : narrow w v = v :=
  BitVec.eq_of_toNat_eq (by rw [narrow_toNat, Nat.mod_eq_of_lt h])

theorem width_bits_le (w : Width) : 2 ^ w.bits ≤ 65536 := by cases w <;> decide

/-- A number reduced mod 2^w is its own low part. -/
theorem narrow_ofNat_mod (w : Width) (n : Nat) :
    narrow w (BitVec.ofNat 16 (n % 2 ^ w.bits)) = BitVec.ofNat 16 (n % 2 ^ w.bits) := by
  apply narrow_of_lt
  have := width_bits_le w
  have : n % 2 ^ w.bits < 2 ^ w.bits := Nat.mod_lt _ (by cases w <;> decide)
  simp only [BitVec.toNat_ofNat]
  omega

theorem word_toNat (h l : Byte) : (word h l).toNat = h.toNat * 256 + l.toNat := by
  simp only [word, BitVec.toNat_append]
  rw [← Nat.shiftLeft_add_eq_or_of_lt (by simpa using l.isLt), Nat.shiftLeft_eq]

@[simp] theorem zext_toNat (b : Byte) : (zext b).toNat = b.toNat := by simp [zext, word_toNat]

@[simp] theorem loByte_toNat (v : Word) : (loByte v).toNat = v.toNat % 256 := by
  simp [loByte, BitVec.extractLsb'_toNat]

@[simp] theorem hiByte_toNat (v : Word) : (hiByte v).toNat = v.toNat / 256 := by
  have := v.isLt
  simp only [hiByte, BitVec.extractLsb'_toNat, Nat.shiftRight_eq_div_pow]
  omega

@[simp] theorem loByte_word (h l : Byte) : loByte (word h l) = l :=
  BitVec.eq_of_toNat_eq (by have := l.isLt; simp only [loByte_toNat, word_toNat]; omega)

@[simp] theorem hiByte_word (h l : Byte) : hiByte (word h l) = h :=
  BitVec.eq_of_toNat_eq (by have := l.isLt; simp only [hiByte_toNat, word_toNat]; omega)

theorem word_hi_lo (v : Word) : word (hiByte v) (loByte v) = v :=
  BitVec.eq_of_toNat_eq (by have := v.isLt; simp only [hiByte_toNat, loByte_toNat, word_toNat]; omega)

theorem narrow_w8 (v : Word) : narrow .w8 v = zext (loByte v) :=
  BitVec.eq_of_toNat_eq (by simp [narrow_toNat, Width.bits])

@[simp] theorem narrow_w16 (v : Word) : narrow .w16 v = v := rfl

@[simp] theorem loByte_narrow (w : Width) (v : Word) : loByte (narrow w v) = loByte v := by
  cases w
  · simp [narrow_w8, zext]
  · rfl

/-- An 8-bit value has high byte 0. -/
theorem hiByte_narrow_w8 (v : Word) : hiByte (narrow .w8 v) = 0x00#8 := by simp [narrow_w8, zext]

/-- Merging takes the low part of the new value alone. -/
@[simp] theorem mergeLow_narrow (w : Width) (old v : Word) : mergeLow w old (narrow w v) = mergeLow w old v := by
  cases w <;> simp [mergeLow]

@[simp] theorem State.narrow_acc (s : State) (w : Width) : narrow w (s.acc w) = s.acc w := narrow_narrow w s.c

@[simp] theorem State.narrow_idx (s : State) (r : IndexReg) (w : Width) : narrow w (s.idx r w) = s.idx r w := by
  cases r <;> exact narrow_narrow w _

/-- A data read delivers a value of its width. -/
@[simp] theorem State.narrow_readData (s : State) (l : Loc) (w : Width) : narrow w (s.readData l w) = s.readData l w := by
  cases l with
  | imm v => exact narrow_narrow w v
  | acc => exact s.narrow_acc w
  | mem a0 a1 => cases w <;> simp [State.readData, narrow_w8, zext]

/-- The accumulator's and index registers' widths exist on the 65816 in native mode alone. -/
theorem State.wA_cases (s : State) : s.wA = .w8 ∨ (s.wA = .w16 ∧ s.cfg.variant = .m65816 ∧ s.e = false) := by
  unfold State.wA; split <;> simp_all

theorem State.wX_cases (s : State) : s.wX = .w8 ∨ (s.wX = .w16 ∧ s.cfg.variant = .m65816 ∧ s.e = false) := by
  unfold State.wX; split <;> simp_all

/-- n and z of a value of its width, as setNZ leaves them. -/
theorem State.nzFrom_of_flags {t : State} {w : Width} {r : Word} (hr : narrow w r = r)
    (hn : t.flag .n = r.getLsbD (w.bits - 1)) (hz : t.flag .z = (narrow w r == 0#16)) : t.nzFrom w r := by
  refine ⟨hn, ?_⟩
  rw [hz, hr]
  rfl

end Sys2Proof.Machine
end

