-- ==== Sys2Proof/Laws/Memory.lean ====
section
/-! SUPPORT. What reading and writing a byte of memory do to each other, and the canonical form under writes. -/

namespace Sys2Proof.Machine

/-- Below its first possible address a canonical memory lists nothing. -/
theorem Memory.read_below (m : Memory) (lo a : Nat) (h : Memory.wfFrom lo m = true) (ha : a < lo) :
    Memory.read m a = Memory.unlisted := by
  induction m generalizing lo with
  | nil => rfl
  | cons c rest ih =>
    obtain ⟨k, b⟩ := c
    simp only [Memory.wfFrom, Bool.and_eq_true, decide_eq_true_eq] at h
    simp only [Memory.read, show k ≠ a by omega, if_false]
    exact ih (k + 1) h.2 (by omega)

/-- Reading after a write: the byte written at its address, the old byte everywhere else. -/
theorem Memory.read_write (m : Memory) (lo a b : Nat) (v : Byte) (h : Memory.wfFrom lo m = true) :
    Memory.read (Memory.write m a v) b = if b = a then v else Memory.read m b := by
  induction m generalizing lo with
  | nil => by_cases hb : b = a <;> by_cases hv : v = Memory.unlisted <;> simp [Memory.write, Memory.read, hb, hv, Ne.symm]
  | cons c rest ih =>
    obtain ⟨k, x⟩ := c
    simp only [Memory.wfFrom, Bool.and_eq_true, decide_eq_true_eq] at h
    have below := Memory.read_below rest (k + 1)
    have ih := ih (k + 1) h.2
    unfold Memory.write
    by_cases h1 : a < k
    · by_cases hv : v = Memory.unlisted <;> by_cases hb : b = a
      · subst hb
        simp [h1, hv, Memory.read, show k ≠ b by omega, below b h.2 (by omega)]
      · simp [h1, hv, hb]
      · subst hb
        simp [h1, hv, Memory.read]
      · simp [h1, hv, hb, Memory.read, Ne.symm hb]
    · by_cases h2 : a = k
      · subst h2
        by_cases hv : v = Memory.unlisted <;> by_cases hb : b = a
        · subst hb; simp [hv, below b h.2 (by omega)]
        · simp [hv, hb, Memory.read, Ne.symm hb]
        · subst hb; simp [hv, Memory.read]
        · simp [hv, hb, Memory.read, Ne.symm hb]
      · simp only [h1, h2, if_false, Memory.read, ih]
        by_cases hb : b = a
        · subst hb; simp [Ne.symm h2]
        · simp [hb]

/-- A write keeps the canonical form. -/
theorem Memory.wfFrom_write (m : Memory) (lo a : Nat) (v : Byte) (h : Memory.wfFrom lo m = true) (hlo : lo ≤ a)
    (ha : a < 2 ^ 24) : Memory.wfFrom lo (Memory.write m a v) = true := by
  induction m generalizing lo with
  | nil =>
    by_cases hv : v = Memory.unlisted
    · simp [Memory.write, hv, Memory.wfFrom]
    · simp [Memory.write, hv, Memory.wfFrom, hlo]; omega
  | cons c rest ih =>
    obtain ⟨k, x⟩ := c
    have h' := h
    simp only [Memory.wfFrom, Bool.and_eq_true, decide_eq_true_eq] at h
    obtain ⟨⟨⟨h1, h2⟩, h3⟩, h4⟩ := h
    unfold Memory.write
    by_cases hak : a < k
    · by_cases hv : v = Memory.unlisted
      · simpa [hak, hv] using h'
      · simp only [hak, hv, if_true, if_false, Memory.wfFrom]
        simp [hlo, h3, h4, hv, show a + 1 ≤ k by omega]; omega
    · by_cases hk : a = k
      · subst hk
        by_cases hv : v = Memory.unlisted
        · simp only [hv, lt_irrefl, if_false, if_true]
          clear ih h'
          cases rest with
          | nil => rfl
          | cons d rest' =>
            obtain ⟨k', x'⟩ := d
            simp only [Memory.wfFrom, Bool.and_eq_true, decide_eq_true_eq] at h4 ⊢
            exact ⟨⟨⟨by omega, h4.1.1.2⟩, h4.1.2⟩, h4.2⟩
        · simp [hv, Memory.wfFrom, h1, h4]; omega
      · simp only [hak, hk, if_false, Memory.wfFrom]
        simp [h1, h3, ih (k + 1) h4 (by omega)]; omega

/-- A write at an address of the machine keeps the canonical form. -/
theorem Memory.wf_write (m : Memory) (a : Addr) (v : Byte) (h : Memory.wf m = true) :
    Memory.wf (Memory.write m a.toNat v) = true :=
  Memory.wfFrom_write m 0 a.toNat v h (Nat.zero_le _) a.isLt

theorem State.wf_write (s : State) (a : Addr) (v : Byte) (h : Memory.wf s.mem = true) :
    Memory.wf (s.write a v).mem = true := by
  unfold State.write
  split
  · exact Memory.wf_write _ _ _ h
  · exact h

theorem State.wf_push8 (s : State) (v : Byte) (h : Memory.wf s.mem = true) : Memory.wf (s.push8 v).mem = true :=
  State.wf_write s _ v h

theorem State.wf_push16 (s : State) (v : Word) (h : Memory.wf s.mem = true) : Memory.wf (s.push16 v).mem = true :=
  State.wf_push8 _ _ (State.wf_push8 _ _ h)

theorem State.wf_reset : Memory.wf State.reset.mem = true := rfl

/-- A read depends on the configuration, the step number and the memory alone. -/
theorem State.read_congr {s t : State} (hc : t.cfg = s.cfg) (ht : t.time = s.time) (hm : t.mem = s.mem) (k : AccessKind)
    (a : Addr) : t.read k a = s.read k a := by
  unfold State.read
  rw [hc, ht, hm]

theorem State.keepsMemory_of_eq {s t : State} (hc : t.cfg = s.cfg) (ht : t.time = s.time) (hm : t.mem = s.mem) :
    s.keepsMemory t := State.read_congr hc ht hm

/-- A byte read after a write. -/
theorem State.read_write (s : State) (a b : Addr) (v : Byte) (k : AccessKind) (h : Memory.wf s.mem = true) :
    (s.write a v).read k b = if kindAt s.cfg a = .ram ∧ b = a then v else s.read k b := by
  unfold State.read
  simp only [State.write_cfg, State.write_time, State.write_mem]
  by_cases hr : kindAt s.cfg a = .ram
  · have key := Memory.read_write s.mem 0 a.toNat b.toNat v h
    by_cases hb : b = a
    · subst hb; simp [hr, key]
    · have : b.toNat ≠ a.toNat := fun e => hb (BitVec.eq_of_toNat_eq e)
      simp [hr, hb, key, this]
  · simp [hr]

end Sys2Proof.Machine
end

