-- ==== Sys2Proof/Laws/Ops.lean ====
section
/-! SUPPORT. One lemma for each shared operation of Machine/Ops.lean: stores, the stack, SetP, the interrupt sequence, the
return, the reset sequence, the sampling of the inputs. -/

namespace Sys2Proof.Machine

/-! ## Stores -/

theorem byteAfter_append (old : Byte) (a x : Addr) (b : Byte) (l : List (Addr × Byte)) :
    byteAfter old a (l ++ [(x, b)]) = if a = x then b else byteAfter old a l := by
  induction l generalizing old with
  | nil => rfl
  | cons c rest ih => exact ih _

theorem State.storesTo_nil {s t : State} (h : s.keepsMemory t) : s.storesTo t [] := by
  intro k a
  rw [h k a]
  simp [byteAfter]

/-- One more store at the end of a list of stores. -/
theorem State.storesTo_write {s t : State} {l : List (Addr × Byte)} (h : s.storesTo t l) (hc : t.cfg = s.cfg)
    (hw : Memory.wf t.mem = true) (x : Addr) (b : Byte) : s.storesTo (t.write x b) (l ++ [(x, b)]) := by
  intro k a
  rw [State.read_write t x a b k hw, h k a, byteAfter_append, hc]
  by_cases hx : a = x
  · subst hx; by_cases hr : kindAt s.cfg a = .ram <;> simp [hr]
  · simp [hx]

theorem State.storesTo_congr {s t u : State} {l : List (Addr × Byte)} (h : s.storesTo t l) (hc : u.cfg = t.cfg)
    (ht : u.time = t.time) (hm : u.mem = t.mem) : s.storesTo u l := fun k a => by
  rw [State.read_congr hc ht hm k a]; exact h k a

/-! ## Pushes -/

/-- `t` is `s` after pushing these bytes, the first first; nothing but S and memory changed. -/
structure State.Pushed (s t : State) (bytes : List Byte) : Prop where
  stores : s.storesTo t (s.pushes bytes)
  sp : t.s = s.stackBelow bytes.length
  wf : Memory.wf t.mem = true
  rest : t = { s with s := t.s, mem := t.mem }

theorem State.pushesFrom_append (s : State) (k : Nat) (bytes : List Byte) (b : Byte) :
    s.pushesFrom k (bytes ++ [b]) = s.pushesFrom k bytes ++ [(b0 (s.stackBelow (k + bytes.length)), b)] := by
  induction bytes generalizing k with
  | nil => rfl
  | cons c rest ih =>
    simp only [List.cons_append, State.pushesFrom, ih, List.length_cons]
    rw [show k + 1 + rest.length = k + (rest.length + 1) by omega]

theorem State.pushed_nil {s : State} (h : Memory.wf s.mem = true) : s.Pushed s [] :=
  ⟨State.storesTo_nil fun _ _ => rfl, rfl, h, rfl⟩

/-- A push adds one byte below (R150). -/
theorem State.Pushed.push8 {s t : State} {bytes : List Byte} (h : s.Pushed t bytes) (b : Byte) :
    s.Pushed (t.push8 b) (bytes ++ [b]) := by
  have hcfg : t.cfg = s.cfg := by rw [h.rest]
  have he : t.e = s.e := by rw [h.rest]
  refine ⟨?_, ?_, State.wf_push8 t b h.wf, by rw [h.rest]; rfl⟩
  · have := State.storesTo_write h.stores hcfg h.wf (b0 t.s) b
    rw [h.sp] at this
    rw [State.pushes, State.pushesFrom_append, Nat.zero_add]
    exact State.storesTo_congr this rfl rfl (by rw [State.push8_mem, h.sp])
  · rw [State.push8_s, h.sp, he, List.length_append]
    rfl

/-- A 16-bit push: high byte, then low byte (R152). -/
theorem State.Pushed.push16 {s t : State} {bytes : List Byte} (h : s.Pushed t bytes) (v : Word) :
    s.Pushed (t.push16 v) (bytes ++ [hiByte v, loByte v]) := by
  have := (h.push8 (hiByte v)).push8 (loByte v)
  rwa [List.append_assoc] at this

/-- A push at a width (R280, R285). -/
theorem State.Pushed.pushW {s t : State} {bytes : List Byte} (h : s.Pushed t bytes) (w : Width) (v : Word) :
    s.Pushed (t.pushW w v) (bytes ++ pushedBytes w v) := by
  cases w
  · exact h.push8 _
  · exact h.push16 v

/-! ## Pulls -/

theorem State.pull8_eq (s : State) : s.pull8 = (s.stackByte 1, { s with s := s.stackAbove 1 }) := rfl

/-- A 16-bit pull: low byte, then high byte (R153). -/
theorem State.pull16_eq (s : State) : s.pull16 = (s.stackWord .w16, { s with s := s.stackAbove 2 }) := rfl

theorem State.pullW_eq (s : State) (w : Width) :
    s.pullW w = (s.stackWord w, { s with s := s.stackAbove w.byteCount }) := by cases w <;> rfl

/-! ## SetP -/

/-- SetP (R40): the new P, and X and Y cut to the new index width. -/
theorem State.setP_eq (s : State) (v : Byte) :
    s.setP v = { s with
      p := statusValue s.e v
      x := lowBits (s.setP v).wX s.x
      y := lowBits (s.setP v).wX s.y } := by
  have hx : (s.setP v).x = lowBits (s.setP v).wX s.x := (narrow_eq_lowBits _ _).symm ▸ rfl
  have hy : (s.setP v).y = lowBits (s.setP v).wX s.y := (narrow_eq_lowBits _ _).symm ▸ rfl
  rw [← hx, ← hy]
  rfl

/-! ## The interrupt sequence -/

theorem handlerP_flag (variant : Variant) (s t : State) (h : t.p = handlerP variant s.p) (g : Flag) :
    t.flag g = if g = .i then true else if g = .d ∧ variant ≠ .m6502 then false else s.flag g := by
  unfold State.flag
  rw [h, handlerP]
  by_cases hv : variant = .m6502
  · simp only [hv, if_true, getLsbD_setFlagIn, ne_eq, not_true_eq_false, and_false, if_false]
  · simp only [hv, if_false, getLsbD_setFlagIn, ne_eq, not_false_eq_true, and_true]
    cases g <;> simp

/-- The frame of the interrupt sequence is pushed (R323). -/
theorem State.pushed_frame {s : State} (hw : Memory.wf s.mem = true) (k : Cause) (ret : Word) :
    s.Pushed (s.pushFrame k ret)
      (if s.e then [hiByte ret, loByte ret, s.stackedP k] else [s.pbr, hiByte ret, loByte ret, s.stackedP k]) := by
  unfold State.pushFrame
  by_cases he : s.e = true
  · rw [if_pos he, if_pos he]
    exact ((State.pushed_nil hw).push16 ret).push8 _
  · rw [if_neg he, if_neg he]
    exact (((State.pushed_nil hw).push8 s.pbr).push16 ret).push8 _

/-- The interrupt sequence, whole (R323). -/
theorem State.interruptedTo_enterInterrupt {s : State} (hw : Memory.wf s.mem = true) (k : Cause) (ret : Word) :
    s.interruptedTo (s.enterInterrupt k ret) ret (s.stackedP k) (k.vector s.e) := by
  have h := State.pushed_frame hw k ret
  have hcfg : (s.pushFrame k ret).cfg = s.cfg := by rw [h.rest]
  have he : (s.pushFrame k ret).e = s.e := by rw [h.rest]
  have hp : (s.pushFrame k ret).p = s.p := by rw [h.rest]
  have fl := handlerP_flag s.cfg.variant s (s.enterInterrupt k ret) (by simp only [State.enterInterrupt, hcfg, hp])
  refine ⟨State.storesTo_congr h.stores rfl rfl rfl, h.sp, ?_, ?_, ?_, rfl, ?_, ?_⟩
  · simp [fl]
  · rw [fl]; by_cases hv : s.cfg.variant = .m6502 <;> simp [hv]
  · intro g hg
    simp only [List.mem_cons, List.not_mem_nil, or_false, not_or] at hg
    simp [fl, hg]
  · rw [← he]; rfl
  · simp only [State.enterInterrupt]
    rw [h.rest]

theorem State.wf_enterInterrupt {s : State} (hw : Memory.wf s.mem = true) (k : Cause) (ret : Word) :
    Memory.wf (s.enterInterrupt k ret).mem = true := (State.pushed_frame hw k ret).wf

/-- The return from an interrupt, whole (R302). -/
theorem State.returnFromInterrupt_eq (s : State) :
    s.returnFromInterrupt = { s with
      p := statusValue s.e (s.stackByte 1)
      x := lowBits s.returnFromInterrupt.wX s.x
      y := lowBits s.returnFromInterrupt.wX s.y
      pc := word (s.stackByte 3) (s.stackByte 2)
      pbr := if s.e then s.pbr else s.stackByte 4
      s := s.stackAbove (if s.e then 3 else 4) } := by
  by_cases he : s.e = true
  · have key : s.returnFromInterrupt = (s.pull8.2.setP s.pull8.1).pull16.2.jump
        (s.pull8.2.setP s.pull8.1).pull16.1 := if_pos he
    have hx : s.returnFromInterrupt.x = lowBits s.returnFromInterrupt.wX s.x := by
      rw [← narrow_eq_lowBits, key]; rfl
    have hy : s.returnFromInterrupt.y = lowBits s.returnFromInterrupt.wX s.y := by
      rw [← narrow_eq_lowBits, key]; rfl
    rw [← hx, ← hy, key]
    rw [if_pos he, if_pos he]
    rfl
  · let u := (s.pull8.2.setP s.pull8.1).pull16.2.jump (s.pull8.2.setP s.pull8.1).pull16.1
    have key : s.returnFromInterrupt = { u.pull8.2 with pbr := u.pull8.1 } := if_neg he
    have hx : s.returnFromInterrupt.x = lowBits s.returnFromInterrupt.wX s.x := by
      rw [← narrow_eq_lowBits, key]; rfl
    have hy : s.returnFromInterrupt.y = lowBits s.returnFromInterrupt.wX s.y := by
      rw [← narrow_eq_lowBits, key]; rfl
    rw [← hx, ← hy, key]
    rw [if_neg he, if_neg he]
    rfl

/-! ## Sampling -/

/-- The inputs sampled: the latch takes the edge unless the processor is stopped (R315, R321). -/
theorem State.sampleInputs_running {s : State} (h : s.run ≠ .stopped) :
    s.sampleInputs = s.withInputs s.nmiSeen := by
  simp only [State.sampleInputs, State.withInputs, State.nmiSeen, h, ne_eq, not_false_eq_true, decide_true,
    Bool.and_true]

theorem State.sampleInputs_stopped {s : State} (h : s.run = .stopped) :
    s.sampleInputs = s.withInputs s.nmiPending := by
  simp [State.sampleInputs, State.withInputs, h]

/-- An instruction starts where startsInstruction says (R331, R303). -/
theorem step_of_startsInstruction {s : State} (h : s.startsInstruction) :
    step s = runInstruction { s.withInputs false with run := .running } := by
  obtain ⟨hr, hn, h⟩ := h
  have hs : s.run ≠ .stopped := by rcases h with ⟨h, -⟩ | ⟨h, -⟩ <;> rw [h] <;> decide
  have hsmp := State.sampleInputs_running hs
  rw [hn] at hsmp
  have hb : (s.withInputs false).boundary = .instr := by
    unfold State.boundary
    rcases h with ⟨h, h' | h'⟩ | ⟨h, hi, hf⟩ <;> simp_all
  rw [step, afterSampling, hsmp, hb]
  rfl

end Sys2Proof.Machine
end

