-- ==== Sys2Proof/Laws/Operands.lean ====
section
/-! SUPPORT. One lemma for each shared shape of access: WriteData, read-modify-write, stores, loads, pushes, and the numbers that
operand locations stand for. -/

namespace Sys2Proof.Machine

/-! ## Locations -/

theorem Operand.loc_eq_acc (o : Operand) (s : State) : o.loc s = .acc ↔ o = .acc := by
  cases o <;> simp [Operand.loc, State.memLin, State.dpLoc, memB0]

theorem bankAddr_toNat (bank : Byte) (off : Word) : (bankAddr bank off).toNat = linear bank off := by
  simp only [bankAddr, BitVec.toNat_append, linear]
  rw [← Nat.shiftLeft_add_eq_or_of_lt (by simpa using off.isLt), Nat.shiftLeft_eq]

@[simp] theorem b0_toNat (off : Word) : (b0 off).toNat = off.toNat := by
  rw [b0, bankAddr_toNat, linear]; simp

@[simp] theorem asAddr_toNat (v : Word) : (asAddr v).toNat = v.toNat := by
  rw [asAddr, bankAddr_toNat, linear]; simp

theorem State.index_x (s : State) : s.index .x = lowBits s.wX s.x := narrow_eq_lowBits _ _

theorem State.index_y (s : State) : s.index .y = lowBits s.wX s.y := narrow_eq_lowBits _ _

/-- On the 65816 the bytes of a linear location lie at an address and the next (R121). -/
theorem State.memLin_isMem {s : State} (h : s.cfg.variant = .m65816) (a : Addr) (n : Nat) (ha : a.toNat = n % 2 ^ 24) :
    (s.memLin a).isMem (n % 2 ^ 24) ((n + 1) % 2 ^ 24) := by
  refine ⟨a, a + 1#24, by simp only [State.memLin, State.lin, h, if_true], ha, ?_⟩
  rw [BitVec.toNat_add, ha, show (1#24).toNat = 1 from rfl]
  omega

/-- On the 6502 and 65C02 both addresses are taken mod 2^16 (R122). -/
theorem State.memLin_isMem_narrow {s : State} (h : s.cfg.variant ≠ .m65816) (a : Addr) (n : Nat)
    (ha : a.toNat % 65536 = n % 65536) : (s.memLin a).isMem (n % 65536) ((n + 1) % 65536) := by
  refine ⟨b0 (a.extractLsb' 0 16), b0 ((a + 1#24).extractLsb' 0 16), by simp only [State.memLin, State.lin, h, if_false],
    ?_, ?_⟩
  · rw [b0_toNat, BitVec.extractLsb'_toNat, Nat.shiftRight_zero]; exact ha
  · rw [b0_toNat, BitVec.extractLsb'_toNat, Nat.shiftRight_zero, BitVec.toNat_add, show (1#24).toNat = 1 from rfl]
    omega

/-! ## WriteData -/

theorem State.writeData_eq (s : State) (l : Loc) (w : Width) (v : Word) :
    s.writeData l w v = { s with
      c := if l = .acc then mergeLow w s.c v else s.c
      mem := (s.writeData l w v).mem } := by
  cases l with
  | imm _ => rfl
  | acc => rfl
  | mem _ _ => cases w <;> rfl

theorem State.storesTo_writeData {s : State} (h : Memory.wf s.mem = true) (l : Loc) (w : Width) (v : Word) :
    s.storesTo (s.writeData l w v) (l.stores w v) := by
  have h0 : s.storesTo s [] := State.storesTo_nil fun _ _ => rfl
  cases l with
  | imm _ => exact h0
  | acc => exact State.storesTo_congr h0 rfl rfl rfl
  | mem a0 a1 =>
    have h1 := State.storesTo_write h0 rfl h a0 (loByte v)
    cases w with
    | w8 => exact h1
    | w16 => exact State.storesTo_write h1 rfl (State.wf_write s _ _ h) a1 (hiByte v)

theorem State.wf_writeData {s : State} (h : Memory.wf s.mem = true) (l : Loc) (w : Width) (v : Word) :
    Memory.wf (s.writeData l w v).mem = true := by
  cases l with
  | imm _ => exact h
  | acc => exact h
  | mem _ _ =>
    cases w with
    | w8 => exact State.wf_write s _ _ h
    | w16 => exact State.wf_write _ _ _ (State.wf_write s _ _ h)

/-! ## Read-modify-write -/

theorem State.meetsSensitiveDevice_iff (s : State) (l : Loc) (w : Width) : s.meetsSensitiveDevice l w = true ↔ s.onSensitiveDevice l w := by
  cases l with
  | imm _ => simp [State.meetsSensitiveDevice, State.onSensitiveDevice]
  | acc => simp [State.meetsSensitiveDevice, State.onSensitiveDevice]
  | mem a0 a1 => cases w <;> simp [State.meetsSensitiveDevice, State.onSensitiveDevice, State.isSensitiveDevice]

theorem rmw_refused {o : Operand} {res : Width → Word → Word} {flags : State → Width → Word → State} {s : State}
    (h : s.onSensitiveDevice (o.loc s) s.wA) : rmw o res flags s = .refused .deviceRMW :=
  if_pos ((s.meetsSensitiveDevice_iff _ _).mpr h)

/-- What a read-modify-write instruction can do: when its flag function writes P alone, from P and the value read, it writes
the result back and those flags. -/
theorem rmw_writesBack {o : Operand} {res : Width → Word → Word} {flags : State → Width → Word → State} {s : State}
    {fs : List Flag} {P : State → Prop} (hw : Memory.wf s.mem = true) (hd : ¬ s.onSensitiveDevice (o.loc s) s.wA)
    (hf : ∀ t w v, flags t w v = { t with p := (flags t w v).p })
    (hk : ∀ t n, t.p = s.p → s.keepsFlagsBut ((flags t s.wA (s.readData (o.loc s) s.wA)).advance n) fs)
    (hP : ∀ t n, t.p = s.p → P ((flags t s.wA (s.readData (o.loc s) s.wA)).advance n)) :
    s.writesBack o (res s.wA (s.readData (o.loc s) s.wA)) fs P (rmw o res flags s) := by
  have hb : ¬ s.meetsSensitiveDevice (o.loc s) s.wA = true := fun h => hd ((s.meetsSensitiveDevice_iff _ _).mp h)
  have e := s.writeData_eq (o.loc s) s.wA (res s.wA (s.readData (o.loc s) s.wA))
  have hp : (s.writeData (o.loc s) s.wA (res s.wA (s.readData (o.loc s) s.wA))).p = s.p := by rw [e]
  refine ⟨_, if_neg hb, hP _ _ hp, hk _ _ hp, ?_, ?_, ?_, ?_⟩
  · rw [State.advance_c, hf, e]
    simp only [Operand.loc_eq_acc]
  · exact State.storesTo_congr (State.storesTo_writeData hw _ _ _) (by rw [State.advance_cfg, hf])
      (by rw [State.advance_time, hf]) (by rw [State.advance_mem, hf])
  · rw [State.advance_pc, hf, e]
  · simp only [State.advance]
    rw [hf, e]

/-! ## One access through an operand -/

/-- What an instruction that accesses its operand once can do: it leaves its state, or an indexed access of it meets a
sensitive device and it is refused. -/
theorem accessOnce_cases (o : Operand) (w : Width) (s t : State) :
    (accessOnce o w s t = .next t ∧ ¬ o.onIndexedDevice s w) ∨
      (accessOnce o w s t = .refused .deviceRMW ∧ o.onIndexedDevice s w) := by
  unfold accessOnce Operand.onIndexedDevice
  cases h : o.indexedAccess s w with
  | none => simp
  | some p =>
    simp only [Option.some.injEq, ← State.meetsSensitiveDevice_iff]
    by_cases hb : s.meetsSensitiveDevice p.1 p.2 = true
    · exact .inr ⟨if_pos hb, p.1, p.2, rfl, hb⟩
    · exact .inl ⟨if_neg hb, fun ⟨_, _, e, h⟩ => hb (by rw [e]; exact h)⟩

theorem accessOnce_of_not {o : Operand} {w : Width} {s : State} (h : ¬ o.onIndexedDevice s w) (t : State) :
    accessOnce o w s t = .next t :=
  (accessOnce_cases o w s t).elim (fun k => k.1) fun k => absurd k.2 h

theorem accessOnce_refused {o : Operand} {w : Width} {s : State} (h : o.onIndexedDevice s w) (t : State) :
    accessOnce o w s t = .refused .deviceRMW :=
  (accessOnce_cases o w s t).elim (fun k => absurd h k.2) fun k => k.1

theorem accessOnce_next_iff {o : Operand} {w : Width} {s t : State} :
    accessOnce o w s t = .next t ↔ ¬ o.onIndexedDevice s w :=
  ⟨fun h k => (by rw [accessOnce_refused k] at h; cases h), fun h => accessOnce_of_not h t⟩

theorem accessOnce_refused_iff {o : Operand} {w : Width} {s t : State} :
    accessOnce o w s t = .refused .deviceRMW ↔ o.onIndexedDevice s w :=
  ⟨fun h => (accessOnce_cases o w s t).elim (fun k => (by rw [k.1] at h; cases h)) fun k => k.2,
    fun h => accessOnce_refused h t⟩

theorem accessOnce_next {o : Operand} {w : Width} {s t u : State} (h : accessOnce o w s t = .next u) : t = u := by
  rcases accessOnce_cases o w s t with k | k
  · rw [k.1] at h; cases h; rfl
  · rw [k.1] at h; cases h

/-! ## Platforms without a sensitive device -/

theorem kindAt_ne_sensitive {s : State} (h : s.noSensitiveDevice) (a : Addr) : kindAt s.cfg a ≠ .device false := by
  unfold kindAt
  split
  · next r hr => exact h r (List.mem_of_find?_eq_some hr)
  · simp

theorem State.not_onSensitiveDevice {s : State} (h : s.noSensitiveDevice) (l : Loc) (w : Width) : ¬ s.onSensitiveDevice l w := by
  rintro ⟨a0, a1, -, k | ⟨-, k⟩⟩
  · exact kindAt_ne_sensitive h a0 k
  · exact kindAt_ne_sensitive h a1 k

theorem Operand.not_onIndexedDevice {s : State} (h : s.noSensitiveDevice) (o : Operand) (w : Width) : ¬ o.onIndexedDevice s w :=
  fun ⟨l, v, _, k⟩ => State.not_onSensitiveDevice h l v k

/-! ## Loads, stores and pushes -/

/-- The accumulator and n, z from a value of its width. -/
theorem State.loadsAcc_setNZ (s : State) (w : Width) (r : Word) (hr : narrow w r = r) (len : Nat) :
    s.loadsAcc w r len (.next (((s.setAcc w r).setNZ w r).advance len)) := by
  refine ⟨_, rfl, rfl, State.nzFrom_of_flags hr ?_ ?_, ?_, rfl, fun _ _ => rfl, rfl⟩
  · simp [State.flag_setNZ]
  · simp [State.flag_setNZ]
  · intro g hg
    simp only [List.mem_cons, List.not_mem_nil, or_false, not_or] at hg
    simp [State.flag_setNZ, hg]

/-- An index register and n, z from a value of its width. -/
theorem State.loadsIndex_setNZ (s : State) (reg : IndexReg) (w : Width) (r : Word) (hr : narrow w r = r) (len : Nat) :
    s.loadsIndex reg w r len (.next (((s.setIdx reg w r).setNZ w r).advance len)) := by
  refine ⟨_, rfl, ?_, ?_, State.nzFrom_of_flags hr ?_ ?_, ?_, rfl, fun _ _ => rfl, rfl⟩
  · simp [hr]
  · simp [hr]
  · simp [State.flag_setNZ]
  · simp [State.flag_setNZ]
  · intro g hg
    simp only [List.mem_cons, List.not_mem_nil, or_false, not_or] at hg
    simp [State.flag_setNZ, hg]

/-- A store stores the bytes of its location and nothing else (R243 to R246). -/
theorem store_storesOnly {s : State} (h : Memory.wf s.mem = true) (o : Operand) (hacc : o ≠ .acc) (w : Width) (v : Word)
    (hd : ¬ o.onIndexedDevice s w) : s.storesOnly ((o.loc s).stores w v) (o.len s) (store o w v s) := by
  have e := s.writeData_eq (o.loc s) w v
  refine ⟨_, accessOnce_of_not hd _, State.storesTo_congr (State.storesTo_writeData h _ _ _) rfl rfl rfl, ?_, ?_⟩
  · rw [State.advance_pc, e]
  · simp only [State.advance]
    rw [e]
    simp only [Operand.loc_eq_acc, hacc, if_false]

/-- A push instruction stores its bytes, moves S and PC, and nothing else. -/
theorem State.Pushed.pushesOnly {s t : State} {bytes : List Byte} (h : s.Pushed t bytes) (len : Nat) :
    s.pushesOnly bytes len (.next (t.advance len)) := by
  refine ⟨_, rfl, State.storesTo_congr h.stores rfl rfl rfl, h.sp, ?_, ?_⟩
  · rw [State.advance_pc, h.rest]
  · simp only [State.advance]
    rw [h.rest]

/-- Flags written by a function that changes P alone. -/
theorem State.writesFlags_of_p {s t : State} {fs : List Flag} {P : State → Prop} {len : Nat} (ht : t = { s with p := t.p })
    (hk : s.keepsFlagsBut (t.advance len) fs) (hP : P (t.advance len)) :
    s.writesFlags fs P len (.next (t.advance len)) := by
  refine ⟨_, rfl, hP, hk, ?_, ?_, ?_⟩
  · rw [State.advance_pc, ht]
  · refine State.keepsMemory_of_eq ?_ ?_ ?_ <;> simp only [State.advance] <;> rw [ht]
  · simp only [State.advance]
    rw [ht]

end Sys2Proof.Machine
end

