-- ==== Sys2Proof/Laws/Forms.lean ====
section
/-! SUPPORT. The form of an instruction at an operand is encoded as the tables say and runs its shared meaning. -/

namespace Sys2Proof.Machine

variable {o : Operand} {f : Form}

theorem adcForm_exec (h : adcForm o = some f) : f.encoded ∧ ∀ s, exec f.instr s = adc o s := by
  cases o <;> cases h <;> exact ⟨⟨rfl, rfl⟩, fun _ => rfl⟩

theorem sbcForm_exec (h : sbcForm o = some f) : f.encoded ∧ ∀ s, exec f.instr s = sbc o s := by
  cases o <;> cases h <;> exact ⟨⟨rfl, rfl⟩, fun _ => rfl⟩

theorem eorForm_exec (h : eorForm o = some f) : f.encoded ∧ ∀ s, exec f.instr s = eor o s := by
  cases o <;> cases h <;> exact ⟨⟨rfl, rfl⟩, fun _ => rfl⟩

theorem oraForm_exec (h : oraForm o = some f) : f.encoded ∧ ∀ s, exec f.instr s = ora o s := by
  cases o <;> cases h <;> exact ⟨⟨rfl, rfl⟩, fun _ => rfl⟩

theorem cmpForm_exec (h : cmpForm o = some f) : f.encoded ∧ ∀ s, exec f.instr s = cmp o s := by
  cases o <;> cases h <;> exact ⟨⟨rfl, rfl⟩, fun _ => rfl⟩

theorem ldaForm_exec (h : ldaForm o = some f) : f.encoded ∧ ∀ s, exec f.instr s = lda o s := by
  cases o <;> cases h <;> exact ⟨⟨rfl, rfl⟩, fun _ => rfl⟩

theorem staForm_exec (h : staForm o = some f) : f.encoded ∧ ∀ s, exec f.instr s = sta o s := by
  cases o <;> cases h <;> exact ⟨⟨rfl, rfl⟩, fun _ => rfl⟩

theorem aslForm_exec (h : aslForm o = some f) : f.encoded ∧ ∀ s, exec f.instr s = asl o s := by
  cases o <;> cases h <;> exact ⟨⟨rfl, rfl⟩, fun _ => rfl⟩

theorem lsrForm_exec (h : lsrForm o = some f) : f.encoded ∧ ∀ s, exec f.instr s = lsr o s := by
  cases o <;> cases h <;> exact ⟨⟨rfl, rfl⟩, fun _ => rfl⟩

theorem rolForm_exec (h : rolForm o = some f) : f.encoded ∧ ∀ s, exec f.instr s = rol o s := by
  cases o <;> cases h <;> exact ⟨⟨rfl, rfl⟩, fun _ => rfl⟩

theorem rorForm_exec (h : rorForm o = some f) : f.encoded ∧ ∀ s, exec f.instr s = ror o s := by
  cases o <;> cases h <;> exact ⟨⟨rfl, rfl⟩, fun _ => rfl⟩

theorem incForm_exec (h : incForm o = some f) : f.encoded ∧ ∀ s, exec f.instr s = inc o s := by
  cases o <;> cases h <;> exact ⟨⟨rfl, rfl⟩, fun _ => rfl⟩

theorem decForm_exec (h : decForm o = some f) : f.encoded ∧ ∀ s, exec f.instr s = dec1 o s := by
  cases o <;> cases h <;> exact ⟨⟨rfl, rfl⟩, fun _ => rfl⟩

theorem trbForm_exec (h : trbForm o = some f) : f.encoded ∧ ∀ s, exec f.instr s = trb o s := by
  cases o <;> cases h <;> exact ⟨⟨rfl, rfl⟩, fun _ => rfl⟩

theorem tsbForm_exec (h : tsbForm o = some f) : f.encoded ∧ ∀ s, exec f.instr s = tsb o s := by
  cases o <;> cases h <;> exact ⟨⟨rfl, rfl⟩, fun _ => rfl⟩

theorem ldyForm_exec (h : ldyForm o = some f) : f.encoded ∧ ∀ s, exec f.instr s = ldIndex .y o s := by
  cases o <;> cases h <;> exact ⟨⟨rfl, rfl⟩, fun _ => rfl⟩

theorem ldxForm_exec (h : ldxForm o = some f) : f.encoded ∧ ∀ s, exec f.instr s = ldIndex .x o s := by
  cases o <;> cases h <;> exact ⟨⟨rfl, rfl⟩, fun _ => rfl⟩

theorem stxForm_exec (h : stxForm o = some f) : f.encoded ∧ ∀ s, exec f.instr s = stIndex .x o s := by
  cases o <;> cases h <;> exact ⟨⟨rfl, rfl⟩, fun _ => rfl⟩

theorem styForm_exec (h : styForm o = some f) : f.encoded ∧ ∀ s, exec f.instr s = stIndex .y o s := by
  cases o <;> cases h <;> exact ⟨⟨rfl, rfl⟩, fun _ => rfl⟩

theorem stzForm_exec (h : stzForm o = some f) : f.encoded ∧ ∀ s, exec f.instr s = stz o s := by
  cases o <;> cases h <;> exact ⟨⟨rfl, rfl⟩, fun _ => rfl⟩

theorem cpxForm_exec (h : cpxForm o = some f) : f.encoded ∧ ∀ s, exec f.instr s = cmpIndex .x o s := by
  cases o <;> cases h <;> exact ⟨⟨rfl, rfl⟩, fun _ => rfl⟩

theorem cpyForm_exec (h : cpyForm o = some f) : f.encoded ∧ ∀ s, exec f.instr s = cmpIndex .y o s := by
  cases o <;> cases h <;> exact ⟨⟨rfl, rfl⟩, fun _ => rfl⟩

theorem bitForm_exec (h : bitForm o = some f) : f.encoded ∧ ∀ s, exec f.instr s = bitMemory o s := by
  cases o <;> cases h <;> exact ⟨⟨rfl, rfl⟩, fun _ => rfl⟩

theorem andForm_exec (h : andForm o = some f) : f.encoded ∧ ∀ s, exec f.instr s = and1 o s := by
  cases o <;> cases h <;> exact ⟨⟨rfl, rfl⟩, fun _ => rfl⟩

theorem staForm_ne_acc (h : staForm o = some f) : o ≠ .acc := by rintro rfl; cases h

theorem stxForm_ne_acc (h : stxForm o = some f) : o ≠ .acc := by rintro rfl; cases h

theorem styForm_ne_acc (h : styForm o = some f) : o ≠ .acc := by rintro rfl; cases h

theorem stzForm_ne_acc (h : stzForm o = some f) : o ≠ .acc := by rintro rfl; cases h

end Sys2Proof.Machine
end

