-- ==== Sys2Proof/Laws/Data.lean ====
section
/-! SUPPORT. What every shared meaning of a data instruction leaves alone, said once: control registers, the stack pointer, the
inputs, the widths, the canonical memory. -/

namespace Sys2Proof.Machine

/-- From `s` to `t` only C, X, Y, P, PC and memory changed, the bits m and x of P did not, index registers of 8 bits keep their
high byte 0, and the memory keeps its canonical form. -/
structure State.Data (s t : State) : Prop where
  rest : t = { s with c := t.c, x := t.x, y := t.y, p := t.p, pc := t.pc, mem := t.mem }
  m : t.flag .m = s.flag .m
  xf : t.flag .x = s.flag .x
  hx : s.wX = .w8 → hiByte s.x = 0x00#8 → hiByte t.x = 0x00#8
  hy : s.wX = .w8 → hiByte s.y = 0x00#8 → hiByte t.y = 0x00#8
  wf : Memory.wf s.mem = true → Memory.wf t.mem = true

/-- Such a change keeps the invariant. -/
theorem State.Data.inv {s t : State} (h : s.Data t) (hi : s.Inv) : t.Inv := by
  have hcfg : t.cfg = s.cfg := by rw [h.rest]
  have he : t.e = s.e := by rw [h.rest]
  have hm := h.m
  have hxf := h.xf
  have hw : t.wX = s.wX := by unfold State.wX; rw [hcfg, he, hxf]
  refine ⟨fun hv => ?_, fun e => ?_, fun e => ?_, fun e => ?_, h.wf hi.memWf⟩
  · rw [h.rest]; exact hi.narrowVariant (by rwa [hcfg] at hv)
  · have := hi.fixedBits (by rwa [he] at e)
    exact ⟨hm.trans this.1, hxf.trans this.2⟩
  · rw [h.rest]; exact hi.stackPage (by rwa [he] at e)
  · have := hi.narrowIndex (by rwa [hw] at e)
    rw [hw] at e
    exact ⟨h.hx e this.1, h.hy e this.2⟩

/-! ## The building blocks -/

theorem State.Data.refl (s : State) : s.Data s := ⟨rfl, rfl, rfl, fun _ h => h, fun _ h => h, fun h => h⟩

theorem State.Data.advance {s t : State} (h : s.Data t) (n : Nat) : s.Data (t.advance n) :=
  ⟨by rw [h.rest]; rfl, h.m, h.xf, h.hx, h.hy, h.wf⟩

theorem State.Data.jump {s t : State} (h : s.Data t) (a : Word) : s.Data (t.jump a) :=
  ⟨by rw [h.rest]; rfl, h.m, h.xf, h.hx, h.hy, h.wf⟩

theorem State.Data.setFlag {s t : State} (h : s.Data t) (f : Flag) (b : Bool) (hm : f ≠ .m) (hx : f ≠ .x) :
    s.Data (t.setFlag f b) := by
  refine ⟨by rw [h.rest]; rfl, ?_, ?_, h.hx, h.hy, h.wf⟩
  · rw [State.flag_setFlag, if_neg (Ne.symm hm)]; exact h.m
  · rw [State.flag_setFlag, if_neg (Ne.symm hx)]; exact h.xf

theorem State.Data.setNZ {s t : State} (h : s.Data t) (w : Width) (v : Word) : s.Data (t.setNZ w v) :=
  (h.setFlag .n _ (by decide) (by decide)).setFlag .z _ (by decide) (by decide)

theorem State.Data.setTestZ {s t : State} (h : s.Data t) (a m : Word) : s.Data (t.setTestZ a m) :=
  h.setFlag .z _ (by decide) (by decide)

theorem State.Data.setShift {s t : State} (h : s.Data t) (w : Width) (r : ShiftOut) : s.Data (t.setShift w r) :=
  (h.setNZ w _).setFlag .c _ (by decide) (by decide)

theorem State.Data.setCompare {s t : State} (h : s.Data t) (w : Width) (a m : Word) : s.Data (t.setCompare w a m) :=
  (h.setNZ w _).setFlag .c _ (by decide) (by decide)

theorem State.Data.setAddFlags {s t : State} (h : s.Data t) (o : AddOut) : s.Data (t.setAddFlags o) :=
  (((h.setFlag .n _ (by decide) (by decide)).setFlag .v _ (by decide) (by decide)).setFlag .z _ (by decide)
    (by decide)).setFlag .c _ (by decide) (by decide)

theorem State.Data.setAcc {s t : State} (h : s.Data t) (w : Width) (v : Word) : s.Data (t.setAcc w v) :=
  ⟨by rw [h.rest]; rfl, h.m, h.xf, h.hx, h.hy, h.wf⟩

theorem State.Data.setIdx {s t : State} (h : s.Data t) (r : IndexReg) (v : Word) : s.Data (t.setIdx r s.wX v) := by
  refine ⟨by rw [h.rest]; rfl, h.m, h.xf, fun hw hx => ?_, fun hw hy => ?_, h.wf⟩
  · rw [State.setIdx_x, hw]; split
    · exact hiByte_narrow_w8 v
    · exact h.hx hw hx
  · rw [State.setIdx_y, hw]; split
    · exact hiByte_narrow_w8 v
    · exact h.hy hw hy

theorem State.Data.writeData {s t : State} (h : s.Data t) (l : Loc) (w : Width) (v : Word) : s.Data (t.writeData l w v) := by
  have e := t.writeData_eq l w v
  refine ⟨?_, ?_, ?_, ?_, ?_, fun hw => State.wf_writeData (h.wf hw) l w v⟩
  · rw [e, h.rest]
  · rw [e]; exact h.m
  · rw [e]; exact h.xf
  · rw [e]; exact h.hx
  · rw [e]; exact h.hy

/-! ## The shared meanings -/

variable {s t : State} {o : Operand}

theorem addResult_data {r : AddOut} (h : addResult o r s = .next t) : s.Data t := by
  cases accessOnce_next h; exact (((State.Data.refl s).setAcc _ _).setAddFlags _).advance _

theorem adc_data (h : adc o s = .next t) : s.Data t := addResult_data h

theorem sbc_data (h : sbc o s = .next t) : s.Data t := addResult_data h

/-- A read-modify-write instruction whose flag function keeps to the flags a data instruction writes. -/
theorem rmw_data {res : Width → Word → Word} {flags : State → Width → Word → State}
    (hf : ∀ u : State, s.Data u → ∀ v, s.Data (flags u s.wA v)) (h : rmw o res flags s = .next t) : s.Data t := by
  unfold rmw at h
  split at h
  · cases h
  · cases h; exact (hf _ ((State.Data.refl s).writeData _ _ _) _).advance _

theorem inc_data (h : inc o s = .next t) : s.Data t := by
  unfold inc at h
  refine rmw_data ?_ h
  exact fun _ hu _ => hu.setNZ _ _

theorem dec1_data (h : dec1 o s = .next t) : s.Data t := by
  unfold dec1 at h
  refine rmw_data ?_ h
  exact fun _ hu _ => hu.setNZ _ _

theorem shift_data {f : Width → Word → ShiftOut} (h : shift f o s = .next t) : s.Data t :=
  rmw_data (fun _ hu _ => hu.setShift _ _) h

theorem asl_data (h : asl o s = .next t) : s.Data t := shift_data h

theorem lsr_data (h : lsr o s = .next t) : s.Data t := shift_data h

theorem rol_data (h : rol o s = .next t) : s.Data t := shift_data h

theorem ror_data (h : ror o s = .next t) : s.Data t := shift_data h

theorem trb_data (h : trb o s = .next t) : s.Data t := rmw_data (fun _ hu _ => hu.setTestZ _ _) h

theorem tsb_data (h : tsb o s = .next t) : s.Data t := rmw_data (fun _ hu _ => hu.setTestZ _ _) h

theorem stepIndex_data {r : IndexReg} {f : Width → Word → Word} (h : stepIndex r f s = .next t) : s.Data t := by
  cases h; exact (((State.Data.refl s).setIdx r _).setNZ _ _).advance _

theorem logic_data {f : Word → Word → Word} (h : logic f o s = .next t) : s.Data t := by
  cases accessOnce_next h; exact (((State.Data.refl s).setAcc _ _).setNZ _ _).advance _

theorem and1_data (h : and1 o s = .next t) : s.Data t := logic_data h

theorem eor_data (h : eor o s = .next t) : s.Data t := logic_data h

theorem ora_data (h : ora o s = .next t) : s.Data t := logic_data h

theorem bitImmediate_data (h : bitImmediate o s = .next t) : s.Data t := by
  cases h; exact ((State.Data.refl s).setTestZ _ _).advance _

theorem bitMemory_data (h : bitMemory o s = .next t) : s.Data t := by
  cases accessOnce_next h
  exact ((((State.Data.refl s).setTestZ _ _).setFlag .n _ (by decide) (by decide)).setFlag .v _ (by decide)
    (by decide)).advance _

theorem writeFlag_data {f : Flag} {b : Bool} (hm : f ≠ .m) (hx : f ≠ .x) (h : writeFlag f b s = .next t) : s.Data t := by
  cases h; exact ((State.Data.refl s).setFlag f b hm hx).advance _

theorem cmp_data (h : cmp o s = .next t) : s.Data t := by
  cases accessOnce_next h; exact ((State.Data.refl s).setCompare _ _ _).advance _

theorem cmpIndex_data {r : IndexReg} (h : cmpIndex r o s = .next t) : s.Data t := by
  cases h; exact ((State.Data.refl s).setCompare _ _ _).advance _

theorem branch_data {c : Bool} {disp : Byte} (h : branch c disp s = .next t) : s.Data t := by
  cases c <;> cases h
  · exact (State.Data.refl s).advance _
  · exact (State.Data.refl s).jump _

theorem lda_data (h : lda o s = .next t) : s.Data t := by
  cases accessOnce_next h; exact (((State.Data.refl s).setAcc _ _).setNZ _ _).advance _

theorem ldIndex_data {r : IndexReg} (h : ldIndex r o s = .next t) : s.Data t := by
  cases accessOnce_next h; exact (((State.Data.refl s).setIdx r _).setNZ _ _).advance _

theorem store_data {w : Width} {v : Word} (h : store o w v s = .next t) : s.Data t := by
  cases accessOnce_next h; exact ((State.Data.refl s).writeData _ _ _).advance _

theorem sta_data (h : sta o s = .next t) : s.Data t := store_data h

theorem stIndex_data {r : IndexReg} (h : stIndex r o s = .next t) : s.Data t := store_data h

theorem stz_data (h : stz o s = .next t) : s.Data t := store_data h

theorem toIndex_data {r : IndexReg} {v : Word} (h : toIndex r v s = .next t) : s.Data t := by
  cases h; exact (((State.Data.refl s).setIdx r _).setNZ _ _).advance _

theorem toAcc_data {v : Word} (h : toAcc v s = .next t) : s.Data t := by
  cases h; exact (((State.Data.refl s).setAcc _ _).setNZ _ _).advance _

theorem toC_data {v : Word} (h : toC v s = .next t) : s.Data t := by
  cases h; exact (((State.Data.refl s).setAcc _ _).setNZ _ _).advance _

end Sys2Proof.Machine
end

