-- ==== Sys2Proof/Laws/Control.lean ====
section
/-! SUPPORT. What the stack, status and control operations do to the invariant of Safety.lean. -/

namespace Sys2Proof.Machine

/-! ## Operations that change S, PC and memory alone -/

/-- From `s` to `t` only S, PC and memory changed, S keeps page 1 in emulation mode, the memory its canonical form. -/
structure State.StackOnly (s t : State) : Prop where
  rest : t = { s with s := t.s, pc := t.pc, mem := t.mem }
  sp : s.e = true → hiByte s.s = 0x01#8 → hiByte t.s = 0x01#8
  wf : Memory.wf s.mem = true → Memory.wf t.mem = true

theorem State.StackOnly.inv {s t : State} (h : s.StackOnly t) (hi : s.Inv) : t.Inv := by
  refine ⟨?_, ?_, ?_, ?_, h.wf hi.memWf⟩
  · rw [h.rest]; exact hi.narrowVariant
  · rw [h.rest]; exact hi.fixedBits
  · intro e
    have he : t.e = s.e := by rw [h.rest]
    rw [he] at e
    exact h.sp e (hi.stackPage e)
  · rw [h.rest]; exact hi.narrowIndex

theorem State.StackOnly.refl (s : State) : s.StackOnly s := ⟨rfl, fun _ h => h, fun h => h⟩

theorem State.StackOnly.setS {s t : State} (h : s.StackOnly t) (v : Word) : s.StackOnly (t.setS v) := by
  have he : t.e = s.e := by rw [h.rest]
  refine ⟨by rw [h.rest]; rfl, fun e _ => ?_, h.wf⟩
  simp [stackValue, he, e]

theorem State.StackOnly.push8 {s t : State} (h : s.StackOnly t) (v : Byte) : s.StackOnly (t.push8 v) := by
  have he : t.e = s.e := by rw [h.rest]
  refine ⟨by rw [h.rest]; rfl, fun e _ => ?_, fun w => State.wf_push8 _ _ (h.wf w)⟩
  simp [stackValue, he, e]

theorem State.StackOnly.push16 {s t : State} (h : s.StackOnly t) (v : Word) : s.StackOnly (t.push16 v) :=
  (h.push8 _).push8 _

theorem State.StackOnly.pushW {s t : State} (h : s.StackOnly t) (w : Width) (v : Word) : s.StackOnly (t.pushW w v) := by
  cases w
  · exact h.push8 _
  · exact h.push16 _

theorem State.StackOnly.advance {s t : State} (h : s.StackOnly t) (n : Nat) : s.StackOnly (t.advance n) :=
  ⟨by rw [h.rest]; rfl, h.sp, h.wf⟩

theorem State.StackOnly.jump {s t : State} (h : s.StackOnly t) (a : Word) : s.StackOnly (t.jump a) :=
  ⟨by rw [h.rest]; rfl, h.sp, h.wf⟩

theorem State.stackOnly_jslPushed (s : State) : s.StackOnly s.jslPushed := ((State.StackOnly.refl s).push8 _).push16 _

theorem State.stackOnly_jsrPushed (s : State) : s.StackOnly s.jsrPushed := (State.StackOnly.refl s).push16 _

theorem State.stackOnly_pushFrame (s : State) (k : Cause) (ret : Word) : s.StackOnly (s.pushFrame k ret) := by
  unfold State.pushFrame
  split
  · exact ((State.StackOnly.refl s).push16 _).push8 _
  · exact (((State.StackOnly.refl s).push8 _).push16 _).push8 _

theorem push_stackOnly {s t : State} {w : Width} {v : Word} (h : push w v s = .next t) : s.StackOnly t := by
  cases h; exact ((State.StackOnly.refl s).pushW _ _).advance _

theorem pushByte_stackOnly {s t : State} {v : Byte} (h : pushByte v s = .next t) : s.StackOnly t := by
  cases h; exact ((State.StackOnly.refl s).push8 _).advance _

theorem pushWord_stackOnly {s t : State} {v : Word} {n : Nat} (h : pushWord v n s = .next t) : s.StackOnly t := by
  unfold pushWord at h
  split at h
  · cases h
  · cases h; exact ((State.StackOnly.refl s).push16 _).advance _

/-- S after pulls stays in page 1 in emulation mode. -/
theorem State.hiByte_stackAbove {s : State} (e : s.e = true) (h : hiByte s.s = 0x01#8) (n : Nat) :
    hiByte (s.stackAbove n) = 0x01#8 := by
  cases n
  · exact h
  · simp [State.stackAbove, stackValue, e]

/-! ## The invariant -/

/-- The invariant after a change that keeps e and the configuration, field by field. -/
theorem State.Inv.of_fields {s t : State} (hi : s.Inv) (he : t.e = s.e) (hc : t.cfg = s.cfg)
    (hn : s.cfg.variant ≠ .m65816 → t.d = s.d ∧ t.dbr = s.dbr ∧ t.pbr = s.pbr ∧ t.run = s.run)
    (hm : s.e = true → t.flag .m = true ∧ t.flag .x = true) (hs : s.e = true → hiByte t.s = 0x01#8)
    (hx : t.wX = .w8 → hiByte t.x = 0x00#8 ∧ hiByte t.y = 0x00#8) (hw : Memory.wf t.mem = true) : t.Inv := by
  refine ⟨?_, ?_, ?_, hx, hw⟩
  · rw [hc, he]
    intro h
    obtain ⟨a, b, c, d⟩ := hn h
    rw [a, b, c, d]
    exact hi.narrowVariant h
  · rw [he]; exact hm
  · rw [he]; exact hs

theorem State.Inv.setP {s : State} (hi : s.Inv) (v : Byte) : (s.setP v).Inv := by
  refine hi.of_fields rfl rfl (fun _ => ⟨rfl, rfl, rfl, rfl⟩) (fun e => ?_) hi.stackPage (fun e => ?_) hi.memWf
  · simp [State.flag, Flag.bit, statusValue, e]
  · have key : ∀ (w : Width) (u : Word), w = .w8 → hiByte (narrow w u) = 0x00#8 := by
      rintro w u rfl; exact hiByte_narrow_w8 u
    exact ⟨key _ s.x e, key _ s.y e⟩

/-- After pulls of n bytes. -/
theorem State.Inv.pulls {s : State} (hi : s.Inv) (n : Nat) : ({ s with s := s.stackAbove n } : State).Inv :=
  hi.of_fields rfl rfl (fun _ => ⟨rfl, rfl, rfl, rfl⟩) hi.fixedBits
    (fun e => State.hiByte_stackAbove e (hi.stackPage e) n) hi.narrowIndex hi.memWf

theorem State.Inv.running {s : State} (hi : s.Inv) : ({ s with run := .running } : State).Inv :=
  ⟨fun h => have k := hi.narrowVariant h; ⟨k.1, k.2.1, k.2.2.1, k.2.2.2.1, rfl⟩, hi.fixedBits, hi.stackPage, hi.narrowIndex,
    hi.memWf⟩

theorem State.Inv.sampleInputs {s : State} (hi : s.Inv) : s.sampleInputs.Inv :=
  ⟨hi.narrowVariant, hi.fixedBits, hi.stackPage, hi.narrowIndex, hi.memWf⟩

/-- The registers the interrupt sequence leaves alone. -/
theorem State.enterInterrupt_eq (s : State) (k : Cause) (ret : Word) :
    s.enterInterrupt k ret = { s with
      s := (s.pushFrame k ret).s
      p := handlerP s.cfg.variant s.p
      pbr := 0x00#8
      pc := (s.pushFrame k ret).readVector (k.vector s.e)
      mem := (s.pushFrame k ret).mem } := by
  have h := s.stackOnly_pushFrame k ret
  have hc : (s.pushFrame k ret).cfg = s.cfg := by rw [h.rest]
  have hp : (s.pushFrame k ret).p = s.p := by rw [h.rest]
  have he : (s.pushFrame k ret).e = s.e := by rw [h.rest]
  unfold State.enterInterrupt
  simp only [hc, hp, he]
  generalize (s.pushFrame k ret).readVector _ = v
  generalize s.pushFrame k ret = t at *
  rw [h.rest]

theorem State.Inv.enterInterrupt {s : State} (hi : s.Inv) (k : Cause) (ret : Word) : (s.enterInterrupt k ret).Inv := by
  have hf := s.stackOnly_pushFrame k ret
  have e := s.enterInterrupt_eq k ret
  have fl := handlerP_flag s.cfg.variant s (s.enterInterrupt k ret) (by rw [e])
  generalize s.enterInterrupt k ret = t at *
  have he : t.e = s.e := by rw [e]
  have hc : t.cfg = s.cfg := by rw [e]
  have fm : t.flag .m = s.flag .m := by rw [fl]; simp
  have fx : t.flag .x = s.flag .x := by rw [fl]; simp
  have wx : t.wX = s.wX := by unfold State.wX; rw [fx, he, hc]
  refine hi.of_fields he hc (fun h => ?_) (fun h => ?_) (fun h => ?_) ?_ ?_
  · rw [e]; exact ⟨rfl, rfl, (hi.narrowVariant h).2.2.2.1.symm, rfl⟩
  · rw [fm, fx]; exact hi.fixedBits h
  · rw [e]; exact hf.sp h (hi.stackPage h)
  · rw [wx, e]; exact hi.narrowIndex
  · rw [e]; exact hf.wf hi.memWf

theorem State.Inv.returnFromInterrupt {s : State} (hi : s.Inv) : s.returnFromInterrupt.Inv := by
  have e := s.returnFromInterrupt_eq
  generalize s.returnFromInterrupt = t at *
  refine hi.of_fields (by rw [e]) (by rw [e]) (fun h => ?_) (fun h => ?_) (fun h => ?_) (fun h => ?_) (by rw [e]; exact hi.memWf)
  · rw [e, (hi.narrowVariant h).1]; exact ⟨rfl, rfl, rfl, rfl⟩
  · rw [e]; simp [State.flag, Flag.bit, statusValue, h]
  · rw [e]; exact State.hiByte_stackAbove h (hi.stackPage h) _
  · have key : ∀ (w : Width) (u : Word), w = .w8 → hiByte (lowBits w u) = 0x00#8 := by
      rintro w u rfl; rw [← narrow_eq_lowBits]; exact hiByte_narrow_w8 u
    rw [congrArg State.x e, congrArg State.y e]
    exact ⟨key _ _ h, key _ _ h⟩

/-- P after the reset sequence keeps bits 5 and 4, which are 1 on the 65816 (R360). -/
theorem State.flag_resetSequence (s : State) (f : Flag) (hf : f = .m ∨ f = .x) :
    s.resetSequence.flag f = if s.cfg.variant = .m65816 then true else s.flag f := by
  have key : s.resetSequence.flag f = (if s.cfg.variant = .m65816 then s.p ||| 0x30#8 else s.p).getLsbD f.bit := by
    simp only [State.resetSequence, State.flag, State.resetP, getLsbD_setFlagIn]
    rcases hf with rfl | rfl <;> simp
  rw [key]
  rcases hf with rfl | rfl <;> split <;> simp [State.flag, Flag.bit]

theorem State.Inv.resetSequence {s : State} (hi : s.Inv) : s.resetSequence.Inv := by
  have fm := s.flag_resetSequence .m (Or.inl rfl)
  have fx := s.flag_resetSequence .x (Or.inr rfl)
  by_cases hv : s.cfg.variant = .m65816
  · rw [if_pos hv] at fm fx
    refine ⟨fun h => absurd hv h, fun _ => ⟨fm, fx⟩, fun _ => hiByte_word _ _, fun _ => ?_, hi.memWf⟩
    simp [State.resetSequence, State.resetIndex, hv]
  · rw [if_neg hv] at fm fx
    have hn := hi.narrowVariant hv
    have hx := hi.narrowIndex (by unfold State.wX; simp [hv])
    have hb := hi.fixedBits hn.1
    refine ⟨fun _ => ?_, fun _ => ⟨fm.trans hb.1, fx.trans hb.2⟩, fun _ => hiByte_word _ _, fun _ => ?_, hi.memWf⟩
    · simp [State.resetSequence, hv, hn]
    · simp [State.resetSequence, State.resetIndex, hv, hx]

/-- XCE, whole (R312). -/
theorem State.exchangeCE_eq (s : State) :
    s.exchangeCE = { s with
      e := s.flag .c
      p := if s.flag .c || s.e then setFlagIn s.p .c s.e ||| 0x30#8 else setFlagIn s.p .c s.e
      x := if s.flag .c then narrow .w8 s.x else s.x
      y := if s.flag .c then narrow .w8 s.y else s.y
      s := if s.flag .c then word 0x01#8 (loByte s.s) else s.s } := by
  unfold State.exchangeCE
  cases s.flag .c <;> dsimp only <;> simp only [if_true, Bool.false_eq_true, if_false, Bool.true_or, Bool.false_or]
  · by_cases he : s.e = true
    · rw [if_pos he, if_pos he]; rfl
    · rw [if_neg he, if_neg he]; rfl
  · rfl

/-- A block move step, whole (R310, R311). -/
theorem blockMove_eq (f : Width → Word → Word) (dst src : Byte) (s : State) :
    blockMove f dst src s = .next { s with
      mem := (s.write (bankAddr dst s.y) (s.read .data (bankAddr src s.x))).mem
      dbr := dst
      x := f s.wX s.x
      y := f s.wX s.y
      c := s.c - 1#16
      pc := if s.c = 0x0000#16 then s.pc + 3#16 else s.pc } := by
  have key : s.c - 1#16 = 0xFFFF#16 ↔ s.c = 0x0000#16 := by
    refine ⟨fun h => ?_, fun h => by rw [h]; rfl⟩
    have h := congrArg BitVec.toNat h
    have := s.c.isLt
    apply BitVec.eq_of_toNat_eq
    simp [BitVec.toNat_sub] at *
    omega
  unfold blockMove
  dsimp only
  congr 1
  by_cases h : s.c = 0x0000#16
  · rw [if_pos (key.mpr h)]; simp [h, State.advance, State.write]
  · rw [if_neg (mt key.mp h)]; simp [h, State.write]

end Sys2Proof.Machine
end

