-- ==== Sys2Proof/Laws/Decode.lean ====
section
/-! SUPPORT. Operand bytes laid out and read back. -/

namespace Sys2Proof

open Machine

@[simp] theorem op16_opLo_opHi (v : Word) : op16 (opLo v) (opHi v) = v := word_hi_lo v

@[simp] theorem opLo_op16 (b1 b2 : Byte) : opLo (op16 b1 b2) = b1 := loByte_word b2 b1

@[simp] theorem opHi_op16 (b1 b2 : Byte) : opHi (op16 b1 b2) = b2 := hiByte_word b2 b1

theorem op24_toNat (b1 b2 b3 : Byte) : (op24 b1 b2 b3).toNat = b3.toNat * 65536 + b2.toNat * 256 + b1.toNat := by
  have := b1.isLt
  have := b2.isLt
  simp only [op24, BitVec.toNat_append]
  rw [← Nat.shiftLeft_add_eq_or_of_lt (by omega), ← Nat.shiftLeft_add_eq_or_of_lt (by omega)]
  simp only [Nat.shiftLeft_eq]
  omega

@[simp] theorem op24_extract (a : Addr) :
    op24 (a.extractLsb' 0 8) (a.extractLsb' 8 8) (a.extractLsb' 16 8) = a := by
  apply BitVec.eq_of_toNat_eq
  have := a.isLt
  simp only [op24_toNat, BitVec.extractLsb'_toNat, Nat.shiftRight_eq_div_pow]
  omega

@[simp] theorem extract_op24_low (b1 b2 b3 : Byte) : (op24 b1 b2 b3).extractLsb' 0 8 = b1 := by
  apply BitVec.eq_of_toNat_eq
  have := b1.isLt
  simp only [op24_toNat, BitVec.extractLsb'_toNat, Nat.shiftRight_eq_div_pow]
  omega

@[simp] theorem extract_op24_middle (b1 b2 b3 : Byte) : (op24 b1 b2 b3).extractLsb' 8 8 = b2 := by
  apply BitVec.eq_of_toNat_eq
  have := b1.isLt
  have := b2.isLt
  simp only [op24_toNat, BitVec.extractLsb'_toNat, Nat.shiftRight_eq_div_pow]
  omega

@[simp] theorem extract_op24_bank (b1 b2 b3 : Byte) : (op24 b1 b2 b3).extractLsb' 16 8 = b3 := by
  apply BitVec.eq_of_toNat_eq
  have := b1.isLt
  have := b2.isLt
  have := b3.isLt
  simp only [op24_toNat, BitVec.extractLsb'_toNat, Nat.shiftRight_eq_div_pow]
  omega

/-- An immediate that fits its width is read back from its bytes. -/
theorem immOperand_encodeImm (w : Width) (v : Word) (h : fitsWidth w v = true) (rest : List Byte) :
    immOperand w ((encodeImm w v ++ rest).getD 0 0x00#8) ((encodeImm w v ++ rest).getD 1 0x00#8) = v := by
  cases w
  · simp only [fitsWidth, decide_eq_true_eq] at h
    have hi : opHi v = 0x00#8 := by
      apply BitVec.eq_of_toNat_eq
      rw [show opHi v = hiByte v from rfl, hiByte_toNat]
      simp; omega
    simp only [encodeImm, immOperand, List.cons_append, List.getD_cons_zero]
    rw [← hi]
    exact op16_opLo_opHi v
  · simp [encodeImm, immOperand, encode16]

/-- The bytes of an immediate, and its fit. -/
theorem encodeImm_immOperand (w : Width) (b1 b2 : Byte) :
    encodeImm w (immOperand w b1 b2) = [b1, b2].take (1 + extraByte w) := by
  cases w <;> simp [encodeImm, immOperand, extraByte, encode16]

theorem fitsWidth_immOperand (w : Width) (b1 b2 : Byte) : fitsWidth w (immOperand w b1 b2) = true := by
  cases w
  · have := b1.isLt
    simp [fitsWidth, immOperand, show ∀ a b, op16 a b = word b a from fun _ _ => rfl, word_toNat]
    omega
  · rfl

end Sys2Proof
end

