-- ==== Sys2Proof/Laws/PerInstr.lean ====
section
/-! SUPPORT. The one family of statements per instruction: availability by opcode is availability of the instruction (R97). -/

namespace Sys2Proof.Laws.Availability

/-- The opcode is available exactly where the instruction is. -/
def Statement (i : Instr) : Prop := ∀ v : Variant, opcodeAvailable v i.opcode = i.availableOn v

/-- A row of the table of R97: the opcode is available from the variant `since` on. -/
def rowHolds (op : Byte) (since : Variant) : Bool :=
  [Variant.m6502, .m65C02, .m65816].all fun v => opcodeAvailable v op == decide (since.generation ≤ v.generation)

theorem of_row {i : Instr} (op : Byte) (since : Variant) (ho : i.opcode = op) (hs : i.introducedOn = since)
    (h : rowHolds op since = true) : Statement i := by
  intro v
  rw [ho, Instr.availableOn, hs]
  simp only [rowHolds, List.all_cons, List.all_nil, Bool.and_true, Bool.and_eq_true, beq_iff_eq] at h
  cases v
  · exact h.1
  · exact h.2.1
  · exact h.2.2

theorem brk (sig : Byte) : Statement (.brk sig) := of_row 0x00#8 .m6502 rfl rfl (by decide)
theorem oraDpXInd (o : Byte) : Statement (.oraDpXInd o) := of_row 0x01#8 .m6502 rfl rfl (by decide)
theorem cop (sig : Byte) : Statement (.cop sig) := of_row 0x02#8 .m65816 rfl rfl (by decide)
theorem oraSr (o : Byte) : Statement (.oraSr o) := of_row 0x03#8 .m65816 rfl rfl (by decide)
theorem tsbDp (o : Byte) : Statement (.tsbDp o) := of_row 0x04#8 .m65C02 rfl rfl (by decide)
theorem oraDp (o : Byte) : Statement (.oraDp o) := of_row 0x05#8 .m6502 rfl rfl (by decide)
theorem aslDp (o : Byte) : Statement (.aslDp o) := of_row 0x06#8 .m6502 rfl rfl (by decide)
theorem oraDpIndLong (o : Byte) : Statement (.oraDpIndLong o) := of_row 0x07#8 .m65816 rfl rfl (by decide)
theorem php : Statement .php := of_row 0x08#8 .m6502 rfl rfl (by decide)
theorem oraImm (v : Word) : Statement (.oraImm v) := of_row 0x09#8 .m6502 rfl rfl (by decide)
theorem aslA : Statement .aslA := of_row 0x0A#8 .m6502 rfl rfl (by decide)
theorem phd : Statement .phd := of_row 0x0B#8 .m65816 rfl rfl (by decide)
theorem tsbAbs (a : Word) : Statement (.tsbAbs a) := of_row 0x0C#8 .m65C02 rfl rfl (by decide)
theorem oraAbs (a : Word) : Statement (.oraAbs a) := of_row 0x0D#8 .m6502 rfl rfl (by decide)
theorem aslAbs (a : Word) : Statement (.aslAbs a) := of_row 0x0E#8 .m6502 rfl rfl (by decide)
theorem oraLong (a : Addr) : Statement (.oraLong a) := of_row 0x0F#8 .m65816 rfl rfl (by decide)
theorem bpl (disp : Byte) : Statement (.bpl disp) := of_row 0x10#8 .m6502 rfl rfl (by decide)
theorem oraDpIndY (o : Byte) : Statement (.oraDpIndY o) := of_row 0x11#8 .m6502 rfl rfl (by decide)
theorem oraDpInd (o : Byte) : Statement (.oraDpInd o) := of_row 0x12#8 .m65C02 rfl rfl (by decide)
theorem oraSrIndY (o : Byte) : Statement (.oraSrIndY o) := of_row 0x13#8 .m65816 rfl rfl (by decide)
theorem trbDp (o : Byte) : Statement (.trbDp o) := of_row 0x14#8 .m65C02 rfl rfl (by decide)
theorem oraDpX (o : Byte) : Statement (.oraDpX o) := of_row 0x15#8 .m6502 rfl rfl (by decide)
theorem aslDpX (o : Byte) : Statement (.aslDpX o) := of_row 0x16#8 .m6502 rfl rfl (by decide)
theorem oraDpIndLongY (o : Byte) : Statement (.oraDpIndLongY o) := of_row 0x17#8 .m65816 rfl rfl (by decide)
theorem clc : Statement .clc := of_row 0x18#8 .m6502 rfl rfl (by decide)
theorem oraAbsY (a : Word) : Statement (.oraAbsY a) := of_row 0x19#8 .m6502 rfl rfl (by decide)
theorem incA : Statement .incA := of_row 0x1A#8 .m65C02 rfl rfl (by decide)
theorem tcs : Statement .tcs := of_row 0x1B#8 .m65816 rfl rfl (by decide)
theorem trbAbs (a : Word) : Statement (.trbAbs a) := of_row 0x1C#8 .m65C02 rfl rfl (by decide)
theorem oraAbsX (a : Word) : Statement (.oraAbsX a) := of_row 0x1D#8 .m6502 rfl rfl (by decide)
theorem aslAbsX (a : Word) : Statement (.aslAbsX a) := of_row 0x1E#8 .m6502 rfl rfl (by decide)
theorem oraLongX (a : Addr) : Statement (.oraLongX a) := of_row 0x1F#8 .m65816 rfl rfl (by decide)
theorem jsrAbs (a : Word) : Statement (.jsrAbs a) := of_row 0x20#8 .m6502 rfl rfl (by decide)
theorem andDpXInd (o : Byte) : Statement (.andDpXInd o) := of_row 0x21#8 .m6502 rfl rfl (by decide)
theorem jsl (a : Addr) : Statement (.jsl a) := of_row 0x22#8 .m65816 rfl rfl (by decide)
theorem andSr (o : Byte) : Statement (.andSr o) := of_row 0x23#8 .m65816 rfl rfl (by decide)
theorem bitDp (o : Byte) : Statement (.bitDp o) := of_row 0x24#8 .m6502 rfl rfl (by decide)
theorem andDp (o : Byte) : Statement (.andDp o) := of_row 0x25#8 .m6502 rfl rfl (by decide)
theorem rolDp (o : Byte) : Statement (.rolDp o) := of_row 0x26#8 .m6502 rfl rfl (by decide)
theorem andDpIndLong (o : Byte) : Statement (.andDpIndLong o) := of_row 0x27#8 .m65816 rfl rfl (by decide)
theorem plp : Statement .plp := of_row 0x28#8 .m6502 rfl rfl (by decide)
theorem andImm (v : Word) : Statement (.andImm v) := of_row 0x29#8 .m6502 rfl rfl (by decide)
theorem rolA : Statement .rolA := of_row 0x2A#8 .m6502 rfl rfl (by decide)
theorem pld : Statement .pld := of_row 0x2B#8 .m65816 rfl rfl (by decide)
theorem bitAbs (a : Word) : Statement (.bitAbs a) := of_row 0x2C#8 .m6502 rfl rfl (by decide)
theorem andAbs (a : Word) : Statement (.andAbs a) := of_row 0x2D#8 .m6502 rfl rfl (by decide)
theorem rolAbs (a : Word) : Statement (.rolAbs a) := of_row 0x2E#8 .m6502 rfl rfl (by decide)
theorem andLong (a : Addr) : Statement (.andLong a) := of_row 0x2F#8 .m65816 rfl rfl (by decide)
theorem bmi (disp : Byte) : Statement (.bmi disp) := of_row 0x30#8 .m6502 rfl rfl (by decide)
theorem andDpIndY (o : Byte) : Statement (.andDpIndY o) := of_row 0x31#8 .m6502 rfl rfl (by decide)
theorem andDpInd (o : Byte) : Statement (.andDpInd o) := of_row 0x32#8 .m65C02 rfl rfl (by decide)
theorem andSrIndY (o : Byte) : Statement (.andSrIndY o) := of_row 0x33#8 .m65816 rfl rfl (by decide)
theorem bitDpX (o : Byte) : Statement (.bitDpX o) := of_row 0x34#8 .m65C02 rfl rfl (by decide)
theorem andDpX (o : Byte) : Statement (.andDpX o) := of_row 0x35#8 .m6502 rfl rfl (by decide)
theorem rolDpX (o : Byte) : Statement (.rolDpX o) := of_row 0x36#8 .m6502 rfl rfl (by decide)
theorem andDpIndLongY (o : Byte) : Statement (.andDpIndLongY o) := of_row 0x37#8 .m65816 rfl rfl (by decide)
theorem sec : Statement .sec := of_row 0x38#8 .m6502 rfl rfl (by decide)
theorem andAbsY (a : Word) : Statement (.andAbsY a) := of_row 0x39#8 .m6502 rfl rfl (by decide)
theorem decA : Statement .decA := of_row 0x3A#8 .m65C02 rfl rfl (by decide)
theorem tsc : Statement .tsc := of_row 0x3B#8 .m65816 rfl rfl (by decide)
theorem bitAbsX (a : Word) : Statement (.bitAbsX a) := of_row 0x3C#8 .m65C02 rfl rfl (by decide)
theorem andAbsX (a : Word) : Statement (.andAbsX a) := of_row 0x3D#8 .m6502 rfl rfl (by decide)
theorem rolAbsX (a : Word) : Statement (.rolAbsX a) := of_row 0x3E#8 .m6502 rfl rfl (by decide)
theorem andLongX (a : Addr) : Statement (.andLongX a) := of_row 0x3F#8 .m65816 rfl rfl (by decide)
theorem rti : Statement .rti := of_row 0x40#8 .m6502 rfl rfl (by decide)
theorem eorDpXInd (o : Byte) : Statement (.eorDpXInd o) := of_row 0x41#8 .m6502 rfl rfl (by decide)
theorem wdm (b : Byte) : Statement (.wdm b) := of_row 0x42#8 .m65816 rfl rfl (by decide)
theorem eorSr (o : Byte) : Statement (.eorSr o) := of_row 0x43#8 .m65816 rfl rfl (by decide)
theorem mvp (b1 : Byte) (b2 : Byte) : Statement (.mvp b1 b2) := of_row 0x44#8 .m65816 rfl rfl (by decide)
theorem eorDp (o : Byte) : Statement (.eorDp o) := of_row 0x45#8 .m6502 rfl rfl (by decide)
theorem lsrDp (o : Byte) : Statement (.lsrDp o) := of_row 0x46#8 .m6502 rfl rfl (by decide)
theorem eorDpIndLong (o : Byte) : Statement (.eorDpIndLong o) := of_row 0x47#8 .m65816 rfl rfl (by decide)
theorem pha : Statement .pha := of_row 0x48#8 .m6502 rfl rfl (by decide)
theorem eorImm (v : Word) : Statement (.eorImm v) := of_row 0x49#8 .m6502 rfl rfl (by decide)
theorem lsrA : Statement .lsrA := of_row 0x4A#8 .m6502 rfl rfl (by decide)
theorem phk : Statement .phk := of_row 0x4B#8 .m65816 rfl rfl (by decide)
theorem jmpAbs (a : Word) : Statement (.jmpAbs a) := of_row 0x4C#8 .m6502 rfl rfl (by decide)
theorem eorAbs (a : Word) : Statement (.eorAbs a) := of_row 0x4D#8 .m6502 rfl rfl (by decide)
theorem lsrAbs (a : Word) : Statement (.lsrAbs a) := of_row 0x4E#8 .m6502 rfl rfl (by decide)
theorem eorLong (a : Addr) : Statement (.eorLong a) := of_row 0x4F#8 .m65816 rfl rfl (by decide)
theorem bvc (disp : Byte) : Statement (.bvc disp) := of_row 0x50#8 .m6502 rfl rfl (by decide)
theorem eorDpIndY (o : Byte) : Statement (.eorDpIndY o) := of_row 0x51#8 .m6502 rfl rfl (by decide)
theorem eorDpInd (o : Byte) : Statement (.eorDpInd o) := of_row 0x52#8 .m65C02 rfl rfl (by decide)
theorem eorSrIndY (o : Byte) : Statement (.eorSrIndY o) := of_row 0x53#8 .m65816 rfl rfl (by decide)
theorem mvn (b1 : Byte) (b2 : Byte) : Statement (.mvn b1 b2) := of_row 0x54#8 .m65816 rfl rfl (by decide)
theorem eorDpX (o : Byte) : Statement (.eorDpX o) := of_row 0x55#8 .m6502 rfl rfl (by decide)
theorem lsrDpX (o : Byte) : Statement (.lsrDpX o) := of_row 0x56#8 .m6502 rfl rfl (by decide)
theorem eorDpIndLongY (o : Byte) : Statement (.eorDpIndLongY o) := of_row 0x57#8 .m65816 rfl rfl (by decide)
theorem cli : Statement .cli := of_row 0x58#8 .m6502 rfl rfl (by decide)
theorem eorAbsY (a : Word) : Statement (.eorAbsY a) := of_row 0x59#8 .m6502 rfl rfl (by decide)
theorem phy : Statement .phy := of_row 0x5A#8 .m65C02 rfl rfl (by decide)
theorem tcd : Statement .tcd := of_row 0x5B#8 .m65816 rfl rfl (by decide)
theorem jmpLong (a : Addr) : Statement (.jmpLong a) := of_row 0x5C#8 .m65816 rfl rfl (by decide)
theorem eorAbsX (a : Word) : Statement (.eorAbsX a) := of_row 0x5D#8 .m6502 rfl rfl (by decide)
theorem lsrAbsX (a : Word) : Statement (.lsrAbsX a) := of_row 0x5E#8 .m6502 rfl rfl (by decide)
theorem eorLongX (a : Addr) : Statement (.eorLongX a) := of_row 0x5F#8 .m65816 rfl rfl (by decide)
theorem rts : Statement .rts := of_row 0x60#8 .m6502 rfl rfl (by decide)
theorem adcDpXInd (o : Byte) : Statement (.adcDpXInd o) := of_row 0x61#8 .m6502 rfl rfl (by decide)
theorem per (disp : Word) : Statement (.per disp) := of_row 0x62#8 .m65816 rfl rfl (by decide)
theorem adcSr (o : Byte) : Statement (.adcSr o) := of_row 0x63#8 .m65816 rfl rfl (by decide)
theorem stzDp (o : Byte) : Statement (.stzDp o) := of_row 0x64#8 .m65C02 rfl rfl (by decide)
theorem adcDp (o : Byte) : Statement (.adcDp o) := of_row 0x65#8 .m6502 rfl rfl (by decide)
theorem rorDp (o : Byte) : Statement (.rorDp o) := of_row 0x66#8 .m6502 rfl rfl (by decide)
theorem adcDpIndLong (o : Byte) : Statement (.adcDpIndLong o) := of_row 0x67#8 .m65816 rfl rfl (by decide)
theorem pla : Statement .pla := of_row 0x68#8 .m6502 rfl rfl (by decide)
theorem adcImm (v : Word) : Statement (.adcImm v) := of_row 0x69#8 .m6502 rfl rfl (by decide)
theorem rorA : Statement .rorA := of_row 0x6A#8 .m6502 rfl rfl (by decide)
theorem rtl : Statement .rtl := of_row 0x6B#8 .m65816 rfl rfl (by decide)
theorem jmpInd (a : Word) : Statement (.jmpInd a) := of_row 0x6C#8 .m6502 rfl rfl (by decide)
theorem adcAbs (a : Word) : Statement (.adcAbs a) := of_row 0x6D#8 .m6502 rfl rfl (by decide)
theorem rorAbs (a : Word) : Statement (.rorAbs a) := of_row 0x6E#8 .m6502 rfl rfl (by decide)
theorem adcLong (a : Addr) : Statement (.adcLong a) := of_row 0x6F#8 .m65816 rfl rfl (by decide)
theorem bvs (disp : Byte) : Statement (.bvs disp) := of_row 0x70#8 .m6502 rfl rfl (by decide)
theorem adcDpIndY (o : Byte) : Statement (.adcDpIndY o) := of_row 0x71#8 .m6502 rfl rfl (by decide)
theorem adcDpInd (o : Byte) : Statement (.adcDpInd o) := of_row 0x72#8 .m65C02 rfl rfl (by decide)
theorem adcSrIndY (o : Byte) : Statement (.adcSrIndY o) := of_row 0x73#8 .m65816 rfl rfl (by decide)
theorem stzDpX (o : Byte) : Statement (.stzDpX o) := of_row 0x74#8 .m65C02 rfl rfl (by decide)
theorem adcDpX (o : Byte) : Statement (.adcDpX o) := of_row 0x75#8 .m6502 rfl rfl (by decide)
theorem rorDpX (o : Byte) : Statement (.rorDpX o) := of_row 0x76#8 .m6502 rfl rfl (by decide)
theorem adcDpIndLongY (o : Byte) : Statement (.adcDpIndLongY o) := of_row 0x77#8 .m65816 rfl rfl (by decide)
theorem sei : Statement .sei := of_row 0x78#8 .m6502 rfl rfl (by decide)
theorem adcAbsY (a : Word) : Statement (.adcAbsY a) := of_row 0x79#8 .m6502 rfl rfl (by decide)
theorem ply : Statement .ply := of_row 0x7A#8 .m65C02 rfl rfl (by decide)
theorem tdc : Statement .tdc := of_row 0x7B#8 .m65816 rfl rfl (by decide)
theorem jmpXInd (a : Word) : Statement (.jmpXInd a) := of_row 0x7C#8 .m65C02 rfl rfl (by decide)
theorem adcAbsX (a : Word) : Statement (.adcAbsX a) := of_row 0x7D#8 .m6502 rfl rfl (by decide)
theorem rorAbsX (a : Word) : Statement (.rorAbsX a) := of_row 0x7E#8 .m6502 rfl rfl (by decide)
theorem adcLongX (a : Addr) : Statement (.adcLongX a) := of_row 0x7F#8 .m65816 rfl rfl (by decide)
theorem bra (disp : Byte) : Statement (.bra disp) := of_row 0x80#8 .m65C02 rfl rfl (by decide)
theorem staDpXInd (o : Byte) : Statement (.staDpXInd o) := of_row 0x81#8 .m6502 rfl rfl (by decide)
theorem brl (disp : Word) : Statement (.brl disp) := of_row 0x82#8 .m65816 rfl rfl (by decide)
theorem staSr (o : Byte) : Statement (.staSr o) := of_row 0x83#8 .m65816 rfl rfl (by decide)
theorem styDp (o : Byte) : Statement (.styDp o) := of_row 0x84#8 .m6502 rfl rfl (by decide)
theorem staDp (o : Byte) : Statement (.staDp o) := of_row 0x85#8 .m6502 rfl rfl (by decide)
theorem stxDp (o : Byte) : Statement (.stxDp o) := of_row 0x86#8 .m6502 rfl rfl (by decide)
theorem staDpIndLong (o : Byte) : Statement (.staDpIndLong o) := of_row 0x87#8 .m65816 rfl rfl (by decide)
theorem dey : Statement .dey := of_row 0x88#8 .m6502 rfl rfl (by decide)
theorem bitImm (v : Word) : Statement (.bitImm v) := of_row 0x89#8 .m65C02 rfl rfl (by decide)
theorem txa : Statement .txa := of_row 0x8A#8 .m6502 rfl rfl (by decide)
theorem phb : Statement .phb := of_row 0x8B#8 .m65816 rfl rfl (by decide)
theorem styAbs (a : Word) : Statement (.styAbs a) := of_row 0x8C#8 .m6502 rfl rfl (by decide)
theorem staAbs (a : Word) : Statement (.staAbs a) := of_row 0x8D#8 .m6502 rfl rfl (by decide)
theorem stxAbs (a : Word) : Statement (.stxAbs a) := of_row 0x8E#8 .m6502 rfl rfl (by decide)
theorem staLong (a : Addr) : Statement (.staLong a) := of_row 0x8F#8 .m65816 rfl rfl (by decide)
theorem bcc (disp : Byte) : Statement (.bcc disp) := of_row 0x90#8 .m6502 rfl rfl (by decide)
theorem staDpIndY (o : Byte) : Statement (.staDpIndY o) := of_row 0x91#8 .m6502 rfl rfl (by decide)
theorem staDpInd (o : Byte) : Statement (.staDpInd o) := of_row 0x92#8 .m65C02 rfl rfl (by decide)
theorem staSrIndY (o : Byte) : Statement (.staSrIndY o) := of_row 0x93#8 .m65816 rfl rfl (by decide)
theorem styDpX (o : Byte) : Statement (.styDpX o) := of_row 0x94#8 .m6502 rfl rfl (by decide)
theorem staDpX (o : Byte) : Statement (.staDpX o) := of_row 0x95#8 .m6502 rfl rfl (by decide)
theorem stxDpY (o : Byte) : Statement (.stxDpY o) := of_row 0x96#8 .m6502 rfl rfl (by decide)
theorem staDpIndLongY (o : Byte) : Statement (.staDpIndLongY o) := of_row 0x97#8 .m65816 rfl rfl (by decide)
theorem tya : Statement .tya := of_row 0x98#8 .m6502 rfl rfl (by decide)
theorem staAbsY (a : Word) : Statement (.staAbsY a) := of_row 0x99#8 .m6502 rfl rfl (by decide)
theorem txs : Statement .txs := of_row 0x9A#8 .m6502 rfl rfl (by decide)
theorem txy : Statement .txy := of_row 0x9B#8 .m65816 rfl rfl (by decide)
theorem stzAbs (a : Word) : Statement (.stzAbs a) := of_row 0x9C#8 .m65C02 rfl rfl (by decide)
theorem staAbsX (a : Word) : Statement (.staAbsX a) := of_row 0x9D#8 .m6502 rfl rfl (by decide)
theorem stzAbsX (a : Word) : Statement (.stzAbsX a) := of_row 0x9E#8 .m65C02 rfl rfl (by decide)
theorem staLongX (a : Addr) : Statement (.staLongX a) := of_row 0x9F#8 .m65816 rfl rfl (by decide)
theorem ldyImm (v : Word) : Statement (.ldyImm v) := of_row 0xA0#8 .m6502 rfl rfl (by decide)
theorem ldaDpXInd (o : Byte) : Statement (.ldaDpXInd o) := of_row 0xA1#8 .m6502 rfl rfl (by decide)
theorem ldxImm (v : Word) : Statement (.ldxImm v) := of_row 0xA2#8 .m6502 rfl rfl (by decide)
theorem ldaSr (o : Byte) : Statement (.ldaSr o) := of_row 0xA3#8 .m65816 rfl rfl (by decide)
theorem ldyDp (o : Byte) : Statement (.ldyDp o) := of_row 0xA4#8 .m6502 rfl rfl (by decide)
theorem ldaDp (o : Byte) : Statement (.ldaDp o) := of_row 0xA5#8 .m6502 rfl rfl (by decide)
theorem ldxDp (o : Byte) : Statement (.ldxDp o) := of_row 0xA6#8 .m6502 rfl rfl (by decide)
theorem ldaDpIndLong (o : Byte) : Statement (.ldaDpIndLong o) := of_row 0xA7#8 .m65816 rfl rfl (by decide)
theorem tay : Statement .tay := of_row 0xA8#8 .m6502 rfl rfl (by decide)
theorem ldaImm (v : Word) : Statement (.ldaImm v) := of_row 0xA9#8 .m6502 rfl rfl (by decide)
theorem tax : Statement .tax := of_row 0xAA#8 .m6502 rfl rfl (by decide)
theorem plb : Statement .plb := of_row 0xAB#8 .m65816 rfl rfl (by decide)
theorem ldyAbs (a : Word) : Statement (.ldyAbs a) := of_row 0xAC#8 .m6502 rfl rfl (by decide)
theorem ldaAbs (a : Word) : Statement (.ldaAbs a) := of_row 0xAD#8 .m6502 rfl rfl (by decide)
theorem ldxAbs (a : Word) : Statement (.ldxAbs a) := of_row 0xAE#8 .m6502 rfl rfl (by decide)
theorem ldaLong (a : Addr) : Statement (.ldaLong a) := of_row 0xAF#8 .m65816 rfl rfl (by decide)
theorem bcs (disp : Byte) : Statement (.bcs disp) := of_row 0xB0#8 .m6502 rfl rfl (by decide)
theorem ldaDpIndY (o : Byte) : Statement (.ldaDpIndY o) := of_row 0xB1#8 .m6502 rfl rfl (by decide)
theorem ldaDpInd (o : Byte) : Statement (.ldaDpInd o) := of_row 0xB2#8 .m65C02 rfl rfl (by decide)
theorem ldaSrIndY (o : Byte) : Statement (.ldaSrIndY o) := of_row 0xB3#8 .m65816 rfl rfl (by decide)
theorem ldyDpX (o : Byte) : Statement (.ldyDpX o) := of_row 0xB4#8 .m6502 rfl rfl (by decide)
theorem ldaDpX (o : Byte) : Statement (.ldaDpX o) := of_row 0xB5#8 .m6502 rfl rfl (by decide)
theorem ldxDpY (o : Byte) : Statement (.ldxDpY o) := of_row 0xB6#8 .m6502 rfl rfl (by decide)
theorem ldaDpIndLongY (o : Byte) : Statement (.ldaDpIndLongY o) := of_row 0xB7#8 .m65816 rfl rfl (by decide)
theorem clv : Statement .clv := of_row 0xB8#8 .m6502 rfl rfl (by decide)
theorem ldaAbsY (a : Word) : Statement (.ldaAbsY a) := of_row 0xB9#8 .m6502 rfl rfl (by decide)
theorem tsx : Statement .tsx := of_row 0xBA#8 .m6502 rfl rfl (by decide)
theorem tyx : Statement .tyx := of_row 0xBB#8 .m65816 rfl rfl (by decide)
theorem ldyAbsX (a : Word) : Statement (.ldyAbsX a) := of_row 0xBC#8 .m6502 rfl rfl (by decide)
theorem ldaAbsX (a : Word) : Statement (.ldaAbsX a) := of_row 0xBD#8 .m6502 rfl rfl (by decide)
theorem ldxAbsY (a : Word) : Statement (.ldxAbsY a) := of_row 0xBE#8 .m6502 rfl rfl (by decide)
theorem ldaLongX (a : Addr) : Statement (.ldaLongX a) := of_row 0xBF#8 .m65816 rfl rfl (by decide)
theorem cpyImm (v : Word) : Statement (.cpyImm v) := of_row 0xC0#8 .m6502 rfl rfl (by decide)
theorem cmpDpXInd (o : Byte) : Statement (.cmpDpXInd o) := of_row 0xC1#8 .m6502 rfl rfl (by decide)
theorem rep (v : Byte) : Statement (.rep v) := of_row 0xC2#8 .m65816 rfl rfl (by decide)
theorem cmpSr (o : Byte) : Statement (.cmpSr o) := of_row 0xC3#8 .m65816 rfl rfl (by decide)
theorem cpyDp (o : Byte) : Statement (.cpyDp o) := of_row 0xC4#8 .m6502 rfl rfl (by decide)
theorem cmpDp (o : Byte) : Statement (.cmpDp o) := of_row 0xC5#8 .m6502 rfl rfl (by decide)
theorem decDp (o : Byte) : Statement (.decDp o) := of_row 0xC6#8 .m6502 rfl rfl (by decide)
theorem cmpDpIndLong (o : Byte) : Statement (.cmpDpIndLong o) := of_row 0xC7#8 .m65816 rfl rfl (by decide)
theorem iny : Statement .iny := of_row 0xC8#8 .m6502 rfl rfl (by decide)
theorem cmpImm (v : Word) : Statement (.cmpImm v) := of_row 0xC9#8 .m6502 rfl rfl (by decide)
theorem dex : Statement .dex := of_row 0xCA#8 .m6502 rfl rfl (by decide)
theorem wai : Statement .wai := of_row 0xCB#8 .m65816 rfl rfl (by decide)
theorem cpyAbs (a : Word) : Statement (.cpyAbs a) := of_row 0xCC#8 .m6502 rfl rfl (by decide)
theorem cmpAbs (a : Word) : Statement (.cmpAbs a) := of_row 0xCD#8 .m6502 rfl rfl (by decide)
theorem decAbs (a : Word) : Statement (.decAbs a) := of_row 0xCE#8 .m6502 rfl rfl (by decide)
theorem cmpLong (a : Addr) : Statement (.cmpLong a) := of_row 0xCF#8 .m65816 rfl rfl (by decide)
theorem bne (disp : Byte) : Statement (.bne disp) := of_row 0xD0#8 .m6502 rfl rfl (by decide)
theorem cmpDpIndY (o : Byte) : Statement (.cmpDpIndY o) := of_row 0xD1#8 .m6502 rfl rfl (by decide)
theorem cmpDpInd (o : Byte) : Statement (.cmpDpInd o) := of_row 0xD2#8 .m65C02 rfl rfl (by decide)
theorem cmpSrIndY (o : Byte) : Statement (.cmpSrIndY o) := of_row 0xD3#8 .m65816 rfl rfl (by decide)
theorem pei (o : Byte) : Statement (.pei o) := of_row 0xD4#8 .m65816 rfl rfl (by decide)
theorem cmpDpX (o : Byte) : Statement (.cmpDpX o) := of_row 0xD5#8 .m6502 rfl rfl (by decide)
theorem decDpX (o : Byte) : Statement (.decDpX o) := of_row 0xD6#8 .m6502 rfl rfl (by decide)
theorem cmpDpIndLongY (o : Byte) : Statement (.cmpDpIndLongY o) := of_row 0xD7#8 .m65816 rfl rfl (by decide)
theorem cld : Statement .cld := of_row 0xD8#8 .m6502 rfl rfl (by decide)
theorem cmpAbsY (a : Word) : Statement (.cmpAbsY a) := of_row 0xD9#8 .m6502 rfl rfl (by decide)
theorem phx : Statement .phx := of_row 0xDA#8 .m65C02 rfl rfl (by decide)
theorem stp : Statement .stp := of_row 0xDB#8 .m65816 rfl rfl (by decide)
theorem jmpIndLong (a : Word) : Statement (.jmpIndLong a) := of_row 0xDC#8 .m65816 rfl rfl (by decide)
theorem cmpAbsX (a : Word) : Statement (.cmpAbsX a) := of_row 0xDD#8 .m6502 rfl rfl (by decide)
theorem decAbsX (a : Word) : Statement (.decAbsX a) := of_row 0xDE#8 .m6502 rfl rfl (by decide)
theorem cmpLongX (a : Addr) : Statement (.cmpLongX a) := of_row 0xDF#8 .m65816 rfl rfl (by decide)
theorem cpxImm (v : Word) : Statement (.cpxImm v) := of_row 0xE0#8 .m6502 rfl rfl (by decide)
theorem sbcDpXInd (o : Byte) : Statement (.sbcDpXInd o) := of_row 0xE1#8 .m6502 rfl rfl (by decide)
theorem sep (v : Byte) : Statement (.sep v) := of_row 0xE2#8 .m65816 rfl rfl (by decide)
theorem sbcSr (o : Byte) : Statement (.sbcSr o) := of_row 0xE3#8 .m65816 rfl rfl (by decide)
theorem cpxDp (o : Byte) : Statement (.cpxDp o) := of_row 0xE4#8 .m6502 rfl rfl (by decide)
theorem sbcDp (o : Byte) : Statement (.sbcDp o) := of_row 0xE5#8 .m6502 rfl rfl (by decide)
theorem incDp (o : Byte) : Statement (.incDp o) := of_row 0xE6#8 .m6502 rfl rfl (by decide)
theorem sbcDpIndLong (o : Byte) : Statement (.sbcDpIndLong o) := of_row 0xE7#8 .m65816 rfl rfl (by decide)
theorem inx : Statement .inx := of_row 0xE8#8 .m6502 rfl rfl (by decide)
theorem sbcImm (v : Word) : Statement (.sbcImm v) := of_row 0xE9#8 .m6502 rfl rfl (by decide)
theorem nop : Statement .nop := of_row 0xEA#8 .m6502 rfl rfl (by decide)
theorem xba : Statement .xba := of_row 0xEB#8 .m65816 rfl rfl (by decide)
theorem cpxAbs (a : Word) : Statement (.cpxAbs a) := of_row 0xEC#8 .m6502 rfl rfl (by decide)
theorem sbcAbs (a : Word) : Statement (.sbcAbs a) := of_row 0xED#8 .m6502 rfl rfl (by decide)
theorem incAbs (a : Word) : Statement (.incAbs a) := of_row 0xEE#8 .m6502 rfl rfl (by decide)
theorem sbcLong (a : Addr) : Statement (.sbcLong a) := of_row 0xEF#8 .m65816 rfl rfl (by decide)
theorem beq (disp : Byte) : Statement (.beq disp) := of_row 0xF0#8 .m6502 rfl rfl (by decide)
theorem sbcDpIndY (o : Byte) : Statement (.sbcDpIndY o) := of_row 0xF1#8 .m6502 rfl rfl (by decide)
theorem sbcDpInd (o : Byte) : Statement (.sbcDpInd o) := of_row 0xF2#8 .m65C02 rfl rfl (by decide)
theorem sbcSrIndY (o : Byte) : Statement (.sbcSrIndY o) := of_row 0xF3#8 .m65816 rfl rfl (by decide)
theorem pea (v : Word) : Statement (.pea v) := of_row 0xF4#8 .m65816 rfl rfl (by decide)
theorem sbcDpX (o : Byte) : Statement (.sbcDpX o) := of_row 0xF5#8 .m6502 rfl rfl (by decide)
theorem incDpX (o : Byte) : Statement (.incDpX o) := of_row 0xF6#8 .m6502 rfl rfl (by decide)
theorem sbcDpIndLongY (o : Byte) : Statement (.sbcDpIndLongY o) := of_row 0xF7#8 .m65816 rfl rfl (by decide)
theorem sed : Statement .sed := of_row 0xF8#8 .m6502 rfl rfl (by decide)
theorem sbcAbsY (a : Word) : Statement (.sbcAbsY a) := of_row 0xF9#8 .m6502 rfl rfl (by decide)
theorem plx : Statement .plx := of_row 0xFA#8 .m65C02 rfl rfl (by decide)
theorem xce : Statement .xce := of_row 0xFB#8 .m65816 rfl rfl (by decide)
theorem jsrXInd (a : Word) : Statement (.jsrXInd a) := of_row 0xFC#8 .m65816 rfl rfl (by decide)
theorem sbcAbsX (a : Word) : Statement (.sbcAbsX a) := of_row 0xFD#8 .m6502 rfl rfl (by decide)
theorem incAbsX (a : Word) : Statement (.incAbsX a) := of_row 0xFE#8 .m6502 rfl rfl (by decide)
theorem sbcLongX (a : Addr) : Statement (.sbcLongX a) := of_row 0xFF#8 .m65816 rfl rfl (by decide)

end Sys2Proof.Laws.Availability
end

