-- ==== Sys2Proof/Tests/Slice0.lean ====
section
/-! SUPPORT. The session's own tests. Decoder words are written out from the table of 30_encoding.md R100; one-step results are
those of 95_test_vectors.md, part 3, whose names they carry; the last part shows that the hypotheses of the statements can be met. -/

namespace Sys2Proof.Tests

open Sys2Proof Sys2Proof.Machine

/-! ## Decoding: the word of every row of R100, with operand bytes 12, 34, 56 -/

theorem test_decode_00_to_07 :
    decodeTableWord 16 0x1200 = some (.brk 0x12#8) ∧
    decodeTableWord 16 0x1201 = some (.oraDpXInd 0x12#8) ∧
    decodeTableWord 16 0x1202 = some (.cop 0x12#8) ∧
    decodeTableWord 16 0x1203 = some (.oraSr 0x12#8) ∧
    decodeTableWord 16 0x1204 = some (.tsbDp 0x12#8) ∧
    decodeTableWord 16 0x1205 = some (.oraDp 0x12#8) ∧
    decodeTableWord 16 0x1206 = some (.aslDp 0x12#8) ∧
    decodeTableWord 16 0x1207 = some (.oraDpIndLong 0x12#8) := by
  decide

theorem test_decode_08_to_0F :
    decodeTableWord 8 0x08 = some .php ∧
    decodeTableWord 16 0x1209 = some (.oraImm 0x0012#16) ∧
    decodeTableWord 8 0x0A = some .aslA ∧
    decodeTableWord 8 0x0B = some .phd ∧
    decodeTableWord 24 0x34120C = some (.tsbAbs 0x3412#16) ∧
    decodeTableWord 24 0x34120D = some (.oraAbs 0x3412#16) ∧
    decodeTableWord 24 0x34120E = some (.aslAbs 0x3412#16) ∧
    decodeTableWord 32 0x5634120F = some (.oraLong 0x563412#24) := by
  decide

theorem test_decode_10_to_17 :
    decodeTableWord 16 0x1210 = some (.bpl 0x12#8) ∧
    decodeTableWord 16 0x1211 = some (.oraDpIndY 0x12#8) ∧
    decodeTableWord 16 0x1212 = some (.oraDpInd 0x12#8) ∧
    decodeTableWord 16 0x1213 = some (.oraSrIndY 0x12#8) ∧
    decodeTableWord 16 0x1214 = some (.trbDp 0x12#8) ∧
    decodeTableWord 16 0x1215 = some (.oraDpX 0x12#8) ∧
    decodeTableWord 16 0x1216 = some (.aslDpX 0x12#8) ∧
    decodeTableWord 16 0x1217 = some (.oraDpIndLongY 0x12#8) := by
  decide

theorem test_decode_18_to_1F :
    decodeTableWord 8 0x18 = some .clc ∧
    decodeTableWord 24 0x341219 = some (.oraAbsY 0x3412#16) ∧
    decodeTableWord 8 0x1A = some .incA ∧
    decodeTableWord 8 0x1B = some .tcs ∧
    decodeTableWord 24 0x34121C = some (.trbAbs 0x3412#16) ∧
    decodeTableWord 24 0x34121D = some (.oraAbsX 0x3412#16) ∧
    decodeTableWord 24 0x34121E = some (.aslAbsX 0x3412#16) ∧
    decodeTableWord 32 0x5634121F = some (.oraLongX 0x563412#24) := by
  decide

theorem test_decode_20_to_27 :
    decodeTableWord 24 0x341220 = some (.jsrAbs 0x3412#16) ∧
    decodeTableWord 16 0x1221 = some (.andDpXInd 0x12#8) ∧
    decodeTableWord 32 0x56341222 = some (.jsl 0x563412#24) ∧
    decodeTableWord 16 0x1223 = some (.andSr 0x12#8) ∧
    decodeTableWord 16 0x1224 = some (.bitDp 0x12#8) ∧
    decodeTableWord 16 0x1225 = some (.andDp 0x12#8) ∧
    decodeTableWord 16 0x1226 = some (.rolDp 0x12#8) ∧
    decodeTableWord 16 0x1227 = some (.andDpIndLong 0x12#8) := by
  decide

theorem test_decode_28_to_2F :
    decodeTableWord 8 0x28 = some .plp ∧
    decodeTableWord 16 0x1229 = some (.andImm 0x0012#16) ∧
    decodeTableWord 8 0x2A = some .rolA ∧
    decodeTableWord 8 0x2B = some .pld ∧
    decodeTableWord 24 0x34122C = some (.bitAbs 0x3412#16) ∧
    decodeTableWord 24 0x34122D = some (.andAbs 0x3412#16) ∧
    decodeTableWord 24 0x34122E = some (.rolAbs 0x3412#16) ∧
    decodeTableWord 32 0x5634122F = some (.andLong 0x563412#24) := by
  decide

theorem test_decode_30_to_37 :
    decodeTableWord 16 0x1230 = some (.bmi 0x12#8) ∧
    decodeTableWord 16 0x1231 = some (.andDpIndY 0x12#8) ∧
    decodeTableWord 16 0x1232 = some (.andDpInd 0x12#8) ∧
    decodeTableWord 16 0x1233 = some (.andSrIndY 0x12#8) ∧
    decodeTableWord 16 0x1234 = some (.bitDpX 0x12#8) ∧
    decodeTableWord 16 0x1235 = some (.andDpX 0x12#8) ∧
    decodeTableWord 16 0x1236 = some (.rolDpX 0x12#8) ∧
    decodeTableWord 16 0x1237 = some (.andDpIndLongY 0x12#8) := by
  decide

theorem test_decode_38_to_3F :
    decodeTableWord 8 0x38 = some .sec ∧
    decodeTableWord 24 0x341239 = some (.andAbsY 0x3412#16) ∧
    decodeTableWord 8 0x3A = some .decA ∧
    decodeTableWord 8 0x3B = some .tsc ∧
    decodeTableWord 24 0x34123C = some (.bitAbsX 0x3412#16) ∧
    decodeTableWord 24 0x34123D = some (.andAbsX 0x3412#16) ∧
    decodeTableWord 24 0x34123E = some (.rolAbsX 0x3412#16) ∧
    decodeTableWord 32 0x5634123F = some (.andLongX 0x563412#24) := by
  decide

theorem test_decode_40_to_47 :
    decodeTableWord 8 0x40 = some .rti ∧
    decodeTableWord 16 0x1241 = some (.eorDpXInd 0x12#8) ∧
    decodeTableWord 16 0x1242 = some (.wdm 0x12#8) ∧
    decodeTableWord 16 0x1243 = some (.eorSr 0x12#8) ∧
    decodeTableWord 24 0x341244 = some (.mvp 0x12#8 0x34#8) ∧
    decodeTableWord 16 0x1245 = some (.eorDp 0x12#8) ∧
    decodeTableWord 16 0x1246 = some (.lsrDp 0x12#8) ∧
    decodeTableWord 16 0x1247 = some (.eorDpIndLong 0x12#8) := by
  decide

theorem test_decode_48_to_4F :
    decodeTableWord 8 0x48 = some .pha ∧
    decodeTableWord 16 0x1249 = some (.eorImm 0x0012#16) ∧
    decodeTableWord 8 0x4A = some .lsrA ∧
    decodeTableWord 8 0x4B = some .phk ∧
    decodeTableWord 24 0x34124C = some (.jmpAbs 0x3412#16) ∧
    decodeTableWord 24 0x34124D = some (.eorAbs 0x3412#16) ∧
    decodeTableWord 24 0x34124E = some (.lsrAbs 0x3412#16) ∧
    decodeTableWord 32 0x5634124F = some (.eorLong 0x563412#24) := by
  decide

theorem test_decode_50_to_57 :
    decodeTableWord 16 0x1250 = some (.bvc 0x12#8) ∧
    decodeTableWord 16 0x1251 = some (.eorDpIndY 0x12#8) ∧
    decodeTableWord 16 0x1252 = some (.eorDpInd 0x12#8) ∧
    decodeTableWord 16 0x1253 = some (.eorSrIndY 0x12#8) ∧
    decodeTableWord 24 0x341254 = some (.mvn 0x12#8 0x34#8) ∧
    decodeTableWord 16 0x1255 = some (.eorDpX 0x12#8) ∧
    decodeTableWord 16 0x1256 = some (.lsrDpX 0x12#8) ∧
    decodeTableWord 16 0x1257 = some (.eorDpIndLongY 0x12#8) := by
  decide

theorem test_decode_58_to_5F :
    decodeTableWord 8 0x58 = some .cli ∧
    decodeTableWord 24 0x341259 = some (.eorAbsY 0x3412#16) ∧
    decodeTableWord 8 0x5A = some .phy ∧
    decodeTableWord 8 0x5B = some .tcd ∧
    decodeTableWord 32 0x5634125C = some (.jmpLong 0x563412#24) ∧
    decodeTableWord 24 0x34125D = some (.eorAbsX 0x3412#16) ∧
    decodeTableWord 24 0x34125E = some (.lsrAbsX 0x3412#16) ∧
    decodeTableWord 32 0x5634125F = some (.eorLongX 0x563412#24) := by
  decide

theorem test_decode_60_to_67 :
    decodeTableWord 8 0x60 = some .rts ∧
    decodeTableWord 16 0x1261 = some (.adcDpXInd 0x12#8) ∧
    decodeTableWord 24 0x341262 = some (.per 0x3412#16) ∧
    decodeTableWord 16 0x1263 = some (.adcSr 0x12#8) ∧
    decodeTableWord 16 0x1264 = some (.stzDp 0x12#8) ∧
    decodeTableWord 16 0x1265 = some (.adcDp 0x12#8) ∧
    decodeTableWord 16 0x1266 = some (.rorDp 0x12#8) ∧
    decodeTableWord 16 0x1267 = some (.adcDpIndLong 0x12#8) := by
  decide

theorem test_decode_68_to_6F :
    decodeTableWord 8 0x68 = some .pla ∧
    decodeTableWord 16 0x1269 = some (.adcImm 0x0012#16) ∧
    decodeTableWord 8 0x6A = some .rorA ∧
    decodeTableWord 8 0x6B = some .rtl ∧
    decodeTableWord 24 0x34126C = some (.jmpInd 0x3412#16) ∧
    decodeTableWord 24 0x34126D = some (.adcAbs 0x3412#16) ∧
    decodeTableWord 24 0x34126E = some (.rorAbs 0x3412#16) ∧
    decodeTableWord 32 0x5634126F = some (.adcLong 0x563412#24) := by
  decide

theorem test_decode_70_to_77 :
    decodeTableWord 16 0x1270 = some (.bvs 0x12#8) ∧
    decodeTableWord 16 0x1271 = some (.adcDpIndY 0x12#8) ∧
    decodeTableWord 16 0x1272 = some (.adcDpInd 0x12#8) ∧
    decodeTableWord 16 0x1273 = some (.adcSrIndY 0x12#8) ∧
    decodeTableWord 16 0x1274 = some (.stzDpX 0x12#8) ∧
    decodeTableWord 16 0x1275 = some (.adcDpX 0x12#8) ∧
    decodeTableWord 16 0x1276 = some (.rorDpX 0x12#8) ∧
    decodeTableWord 16 0x1277 = some (.adcDpIndLongY 0x12#8) := by
  decide

theorem test_decode_78_to_7F :
    decodeTableWord 8 0x78 = some .sei ∧
    decodeTableWord 24 0x341279 = some (.adcAbsY 0x3412#16) ∧
    decodeTableWord 8 0x7A = some .ply ∧
    decodeTableWord 8 0x7B = some .tdc ∧
    decodeTableWord 24 0x34127C = some (.jmpXInd 0x3412#16) ∧
    decodeTableWord 24 0x34127D = some (.adcAbsX 0x3412#16) ∧
    decodeTableWord 24 0x34127E = some (.rorAbsX 0x3412#16) ∧
    decodeTableWord 32 0x5634127F = some (.adcLongX 0x563412#24) := by
  decide

theorem test_decode_80_to_87 :
    decodeTableWord 16 0x1280 = some (.bra 0x12#8) ∧
    decodeTableWord 16 0x1281 = some (.staDpXInd 0x12#8) ∧
    decodeTableWord 24 0x341282 = some (.brl 0x3412#16) ∧
    decodeTableWord 16 0x1283 = some (.staSr 0x12#8) ∧
    decodeTableWord 16 0x1284 = some (.styDp 0x12#8) ∧
    decodeTableWord 16 0x1285 = some (.staDp 0x12#8) ∧
    decodeTableWord 16 0x1286 = some (.stxDp 0x12#8) ∧
    decodeTableWord 16 0x1287 = some (.staDpIndLong 0x12#8) := by
  decide

theorem test_decode_88_to_8F :
    decodeTableWord 8 0x88 = some .dey ∧
    decodeTableWord 16 0x1289 = some (.bitImm 0x0012#16) ∧
    decodeTableWord 8 0x8A = some .txa ∧
    decodeTableWord 8 0x8B = some .phb ∧
    decodeTableWord 24 0x34128C = some (.styAbs 0x3412#16) ∧
    decodeTableWord 24 0x34128D = some (.staAbs 0x3412#16) ∧
    decodeTableWord 24 0x34128E = some (.stxAbs 0x3412#16) ∧
    decodeTableWord 32 0x5634128F = some (.staLong 0x563412#24) := by
  decide

theorem test_decode_90_to_97 :
    decodeTableWord 16 0x1290 = some (.bcc 0x12#8) ∧
    decodeTableWord 16 0x1291 = some (.staDpIndY 0x12#8) ∧
    decodeTableWord 16 0x1292 = some (.staDpInd 0x12#8) ∧
    decodeTableWord 16 0x1293 = some (.staSrIndY 0x12#8) ∧
    decodeTableWord 16 0x1294 = some (.styDpX 0x12#8) ∧
    decodeTableWord 16 0x1295 = some (.staDpX 0x12#8) ∧
    decodeTableWord 16 0x1296 = some (.stxDpY 0x12#8) ∧
    decodeTableWord 16 0x1297 = some (.staDpIndLongY 0x12#8) := by
  decide

theorem test_decode_98_to_9F :
    decodeTableWord 8 0x98 = some .tya ∧
    decodeTableWord 24 0x341299 = some (.staAbsY 0x3412#16) ∧
    decodeTableWord 8 0x9A = some .txs ∧
    decodeTableWord 8 0x9B = some .txy ∧
    decodeTableWord 24 0x34129C = some (.stzAbs 0x3412#16) ∧
    decodeTableWord 24 0x34129D = some (.staAbsX 0x3412#16) ∧
    decodeTableWord 24 0x34129E = some (.stzAbsX 0x3412#16) ∧
    decodeTableWord 32 0x5634129F = some (.staLongX 0x563412#24) := by
  decide

theorem test_decode_A0_to_A7 :
    decodeTableWord 16 0x12A0 = some (.ldyImm 0x0012#16) ∧
    decodeTableWord 16 0x12A1 = some (.ldaDpXInd 0x12#8) ∧
    decodeTableWord 16 0x12A2 = some (.ldxImm 0x0012#16) ∧
    decodeTableWord 16 0x12A3 = some (.ldaSr 0x12#8) ∧
    decodeTableWord 16 0x12A4 = some (.ldyDp 0x12#8) ∧
    decodeTableWord 16 0x12A5 = some (.ldaDp 0x12#8) ∧
    decodeTableWord 16 0x12A6 = some (.ldxDp 0x12#8) ∧
    decodeTableWord 16 0x12A7 = some (.ldaDpIndLong 0x12#8) := by
  decide

theorem test_decode_A8_to_AF :
    decodeTableWord 8 0xA8 = some .tay ∧
    decodeTableWord 16 0x12A9 = some (.ldaImm 0x0012#16) ∧
    decodeTableWord 8 0xAA = some .tax ∧
    decodeTableWord 8 0xAB = some .plb ∧
    decodeTableWord 24 0x3412AC = some (.ldyAbs 0x3412#16) ∧
    decodeTableWord 24 0x3412AD = some (.ldaAbs 0x3412#16) ∧
    decodeTableWord 24 0x3412AE = some (.ldxAbs 0x3412#16) ∧
    decodeTableWord 32 0x563412AF = some (.ldaLong 0x563412#24) := by
  decide

theorem test_decode_B0_to_B7 :
    decodeTableWord 16 0x12B0 = some (.bcs 0x12#8) ∧
    decodeTableWord 16 0x12B1 = some (.ldaDpIndY 0x12#8) ∧
    decodeTableWord 16 0x12B2 = some (.ldaDpInd 0x12#8) ∧
    decodeTableWord 16 0x12B3 = some (.ldaSrIndY 0x12#8) ∧
    decodeTableWord 16 0x12B4 = some (.ldyDpX 0x12#8) ∧
    decodeTableWord 16 0x12B5 = some (.ldaDpX 0x12#8) ∧
    decodeTableWord 16 0x12B6 = some (.ldxDpY 0x12#8) ∧
    decodeTableWord 16 0x12B7 = some (.ldaDpIndLongY 0x12#8) := by
  decide

theorem test_decode_B8_to_BF :
    decodeTableWord 8 0xB8 = some .clv ∧
    decodeTableWord 24 0x3412B9 = some (.ldaAbsY 0x3412#16) ∧
    decodeTableWord 8 0xBA = some .tsx ∧
    decodeTableWord 8 0xBB = some .tyx ∧
    decodeTableWord 24 0x3412BC = some (.ldyAbsX 0x3412#16) ∧
    decodeTableWord 24 0x3412BD = some (.ldaAbsX 0x3412#16) ∧
    decodeTableWord 24 0x3412BE = some (.ldxAbsY 0x3412#16) ∧
    decodeTableWord 32 0x563412BF = some (.ldaLongX 0x563412#24) := by
  decide

theorem test_decode_C0_to_C7 :
    decodeTableWord 16 0x12C0 = some (.cpyImm 0x0012#16) ∧
    decodeTableWord 16 0x12C1 = some (.cmpDpXInd 0x12#8) ∧
    decodeTableWord 16 0x12C2 = some (.rep 0x12#8) ∧
    decodeTableWord 16 0x12C3 = some (.cmpSr 0x12#8) ∧
    decodeTableWord 16 0x12C4 = some (.cpyDp 0x12#8) ∧
    decodeTableWord 16 0x12C5 = some (.cmpDp 0x12#8) ∧
    decodeTableWord 16 0x12C6 = some (.decDp 0x12#8) ∧
    decodeTableWord 16 0x12C7 = some (.cmpDpIndLong 0x12#8) := by
  decide

theorem test_decode_C8_to_CF :
    decodeTableWord 8 0xC8 = some .iny ∧
    decodeTableWord 16 0x12C9 = some (.cmpImm 0x0012#16) ∧
    decodeTableWord 8 0xCA = some .dex ∧
    decodeTableWord 8 0xCB = some .wai ∧
    decodeTableWord 24 0x3412CC = some (.cpyAbs 0x3412#16) ∧
    decodeTableWord 24 0x3412CD = some (.cmpAbs 0x3412#16) ∧
    decodeTableWord 24 0x3412CE = some (.decAbs 0x3412#16) ∧
    decodeTableWord 32 0x563412CF = some (.cmpLong 0x563412#24) := by
  decide

theorem test_decode_D0_to_D7 :
    decodeTableWord 16 0x12D0 = some (.bne 0x12#8) ∧
    decodeTableWord 16 0x12D1 = some (.cmpDpIndY 0x12#8) ∧
    decodeTableWord 16 0x12D2 = some (.cmpDpInd 0x12#8) ∧
    decodeTableWord 16 0x12D3 = some (.cmpSrIndY 0x12#8) ∧
    decodeTableWord 16 0x12D4 = some (.pei 0x12#8) ∧
    decodeTableWord 16 0x12D5 = some (.cmpDpX 0x12#8) ∧
    decodeTableWord 16 0x12D6 = some (.decDpX 0x12#8) ∧
    decodeTableWord 16 0x12D7 = some (.cmpDpIndLongY 0x12#8) := by
  decide

theorem test_decode_D8_to_DF :
    decodeTableWord 8 0xD8 = some .cld ∧
    decodeTableWord 24 0x3412D9 = some (.cmpAbsY 0x3412#16) ∧
    decodeTableWord 8 0xDA = some .phx ∧
    decodeTableWord 8 0xDB = some .stp ∧
    decodeTableWord 24 0x3412DC = some (.jmpIndLong 0x3412#16) ∧
    decodeTableWord 24 0x3412DD = some (.cmpAbsX 0x3412#16) ∧
    decodeTableWord 24 0x3412DE = some (.decAbsX 0x3412#16) ∧
    decodeTableWord 32 0x563412DF = some (.cmpLongX 0x563412#24) := by
  decide

theorem test_decode_E0_to_E7 :
    decodeTableWord 16 0x12E0 = some (.cpxImm 0x0012#16) ∧
    decodeTableWord 16 0x12E1 = some (.sbcDpXInd 0x12#8) ∧
    decodeTableWord 16 0x12E2 = some (.sep 0x12#8) ∧
    decodeTableWord 16 0x12E3 = some (.sbcSr 0x12#8) ∧
    decodeTableWord 16 0x12E4 = some (.cpxDp 0x12#8) ∧
    decodeTableWord 16 0x12E5 = some (.sbcDp 0x12#8) ∧
    decodeTableWord 16 0x12E6 = some (.incDp 0x12#8) ∧
    decodeTableWord 16 0x12E7 = some (.sbcDpIndLong 0x12#8) := by
  decide

theorem test_decode_E8_to_EF :
    decodeTableWord 8 0xE8 = some .inx ∧
    decodeTableWord 16 0x12E9 = some (.sbcImm 0x0012#16) ∧
    decodeTableWord 8 0xEA = some .nop ∧
    decodeTableWord 8 0xEB = some .xba ∧
    decodeTableWord 24 0x3412EC = some (.cpxAbs 0x3412#16) ∧
    decodeTableWord 24 0x3412ED = some (.sbcAbs 0x3412#16) ∧
    decodeTableWord 24 0x3412EE = some (.incAbs 0x3412#16) ∧
    decodeTableWord 32 0x563412EF = some (.sbcLong 0x563412#24) := by
  decide

theorem test_decode_F0_to_F7 :
    decodeTableWord 16 0x12F0 = some (.beq 0x12#8) ∧
    decodeTableWord 16 0x12F1 = some (.sbcDpIndY 0x12#8) ∧
    decodeTableWord 16 0x12F2 = some (.sbcDpInd 0x12#8) ∧
    decodeTableWord 16 0x12F3 = some (.sbcSrIndY 0x12#8) ∧
    decodeTableWord 24 0x3412F4 = some (.pea 0x3412#16) ∧
    decodeTableWord 16 0x12F5 = some (.sbcDpX 0x12#8) ∧
    decodeTableWord 16 0x12F6 = some (.incDpX 0x12#8) ∧
    decodeTableWord 16 0x12F7 = some (.sbcDpIndLongY 0x12#8) := by
  decide

theorem test_decode_F8_to_FF :
    decodeTableWord 8 0xF8 = some .sed ∧
    decodeTableWord 24 0x3412F9 = some (.sbcAbsY 0x3412#16) ∧
    decodeTableWord 8 0xFA = some .plx ∧
    decodeTableWord 8 0xFB = some .xce ∧
    decodeTableWord 24 0x3412FC = some (.jsrXInd 0x3412#16) ∧
    decodeTableWord 24 0x3412FD = some (.sbcAbsX 0x3412#16) ∧
    decodeTableWord 24 0x3412FE = some (.incAbsX 0x3412#16) ∧
    decodeTableWord 32 0x563412FF = some (.sbcLongX 0x563412#24) := by
  decide

/-- The immediates at 16 bits (R95), and bytes left over. -/
theorem test_decode_wide_immediates :
    decode .m65816 .w16 .w8 [0x69#8, 0x34#8, 0x12#8, 0xEA#8] = .ok (.adcImm 0x1234#16, [0xEA#8]) ∧
    decode .m65816 .w8 .w16 [0xA2#8, 0x34#8, 0x12#8] = .ok (.ldxImm 0x1234#16, []) ∧
    decode .m65816 .w8 .w16 [0x69#8, 0x34#8, 0x12#8] = .ok (.adcImm 0x0034#16, [0x12#8]) := by
  decide

/-- Refusals by name (R106). -/
theorem test_decode_refusals :
    decode .m6502 .w8 .w8 [0x1A#8] = .error (.unavailable 0x1A#8) ∧
    decode .m65C02 .w8 .w8 [0x22#8, 0x00#8, 0x00#8, 0x00#8] = .error (.unavailable 0x22#8) ∧
    decode .m6502 .w8 .w8 [0xAD#8, 0x00#8] = .error .truncated ∧ decode .m6502 .w8 .w8 [] = .error .truncated := by
  decide

/-- Bytes written out from R91 and R100: JSR 0x1234, JMP 0x123456, MVN with operand bytes 02 01. -/
theorem test_encode :
    encode .w8 .w8 (.jsrAbs 0x1234#16) = [0x20#8, 0x34#8, 0x12#8] ∧
    encode .w8 .w8 (.jmpLong 0x123456#24) = [0x5C#8, 0x56#8, 0x34#8, 0x12#8] ∧
    encode .w8 .w8 (.mvn 0x02#8 0x01#8) = [0x54#8, 0x02#8, 0x01#8] ∧
    encode .w16 .w8 (.ldaImm 0x1234#16) = [0xA9#8, 0x34#8, 0x12#8] ∧ encode .w8 .w8 (.ldaImm 0x0034#16) = [0xA9#8, 0x34#8] := by
  decide

/-! ## Ill-formed instructions are refused by the checks of WellFormed.lean -/

theorem test_not_on_the_6502 :
    Instr.wellFormed .m6502 .w8 .w8 .decA = false ∧ Instr.wellFormed .m6502 .w8 .w8 (.bra 0x00#8) = false ∧
    Instr.wellFormed .m6502 .w8 .w8 (.jsl 0x000000#24) = false ∧ Instr.wellFormed .m6502 .w8 .w8 .dex = true := by
  decide

theorem test_not_on_the_65C02 :
    Instr.wellFormed .m65C02 .w8 .w8 .xba = false ∧ Instr.wellFormed .m65C02 .w8 .w8 (.ldaSr 0x01#8) = false ∧
    Instr.wellFormed .m65C02 .w8 .w8 .phx = true := by
  decide

theorem test_ora_immediate_too_wide :
    Instr.wellFormed .m65816 .w8 .w16 (.oraImm 0x0100#16) = false ∧ Instr.wellFormed .m65816 .w16 .w8 (.oraImm 0x0100#16) = true := by
  decide

theorem test_and_immediate_too_wide :
    Instr.wellFormed .m65816 .w8 .w16 (.andImm 0x0100#16) = false ∧ Instr.wellFormed .m65816 .w16 .w8 (.andImm 0x0100#16) = true := by
  decide

theorem test_eor_immediate_too_wide :
    Instr.wellFormed .m65816 .w8 .w16 (.eorImm 0x0100#16) = false ∧ Instr.wellFormed .m65816 .w16 .w8 (.eorImm 0x0100#16) = true := by
  decide

theorem test_adc_immediate_too_wide :
    Instr.wellFormed .m65816 .w8 .w16 (.adcImm 0x0100#16) = false ∧ Instr.wellFormed .m65816 .w16 .w8 (.adcImm 0x0100#16) = true := by
  decide

theorem test_bit_immediate_too_wide :
    Instr.wellFormed .m65816 .w8 .w16 (.bitImm 0x0100#16) = false ∧ Instr.wellFormed .m65816 .w16 .w8 (.bitImm 0x0100#16) = true := by
  decide

theorem test_lda_immediate_too_wide :
    Instr.wellFormed .m65816 .w8 .w16 (.ldaImm 0x0100#16) = false ∧ Instr.wellFormed .m65816 .w16 .w8 (.ldaImm 0x0100#16) = true := by
  decide

theorem test_cmp_immediate_too_wide :
    Instr.wellFormed .m65816 .w8 .w16 (.cmpImm 0x0100#16) = false ∧ Instr.wellFormed .m65816 .w16 .w8 (.cmpImm 0x0100#16) = true := by
  decide

theorem test_sbc_immediate_too_wide :
    Instr.wellFormed .m65816 .w8 .w16 (.sbcImm 0x0100#16) = false ∧ Instr.wellFormed .m65816 .w16 .w8 (.sbcImm 0x0100#16) = true := by
  decide

theorem test_ldy_immediate_too_wide :
    Instr.wellFormed .m65816 .w16 .w8 (.ldyImm 0x0100#16) = false ∧ Instr.wellFormed .m65816 .w8 .w16 (.ldyImm 0x0100#16) = true := by
  decide

theorem test_ldx_immediate_too_wide :
    Instr.wellFormed .m65816 .w16 .w8 (.ldxImm 0x0100#16) = false ∧ Instr.wellFormed .m65816 .w8 .w16 (.ldxImm 0x0100#16) = true := by
  decide

theorem test_cpy_immediate_too_wide :
    Instr.wellFormed .m65816 .w16 .w8 (.cpyImm 0x0100#16) = false ∧ Instr.wellFormed .m65816 .w8 .w16 (.cpyImm 0x0100#16) = true := by
  decide

theorem test_cpx_immediate_too_wide :
    Instr.wellFormed .m65816 .w16 .w8 (.cpxImm 0x0100#16) = false ∧ Instr.wellFormed .m65816 .w8 .w16 (.cpxImm 0x0100#16) = true := by
  decide

/-! ## One step -/

/-- A running state with these registers and these memory bytes. -/
def start (v : Variant) (e : Bool) (c x y s : Word) (p : Byte) (cells : List (Nat × Byte)) : State :=
  { State.reset with
    cfg := { State.resetConfig with variant := v }
    c := c, x := x, y := y, s := s, pc := 0x1000#16, p := p, e := e
    mem := cells.foldl (fun m q => Memory.write m q.1 q.2) [] }

/-- The outcome is a next state with this property. -/
def outcomeGives (o : Out) (f : State → Bool) : Bool :=
  match o with
  | .next t => f t
  | .fault _ => false
  | .refused _ => false

/-- The step answers a next state with this property. -/
def stepGives (s : State) (f : State → Bool) : Bool := outcomeGives (step s) f

theorem test_T41_01_adcImm :
    stepGives (start .m6502 true 0x00FF#16 0x0000#16 0x0000#16 0x01FF#16 0x30#8 [(0x1000, 0x69#8), (0x1001, 0x01#8)])
      (fun t => t.c == 0x0000#16 && t.pc == 0x1002#16 && t.p == 0x33#8) = true := by
  decide

theorem test_T41_02_adcImm :
    stepGives (start .m6502 true 0x007F#16 0x0000#16 0x0000#16 0x01FF#16 0x30#8 [(0x1000, 0x69#8), (0x1001, 0x01#8)])
      (fun t => t.c == 0x0080#16 && t.pc == 0x1002#16 && t.p == 0xF0#8) = true := by
  decide

theorem test_T41_05_adcDp :
    stepGives (start .m6502 true 0x0010#16 0x0000#16 0x0000#16 0x01FF#16 0xF3#8 [(0x1000, 0x65#8), (0x1001, 0x70#8), (0x70, 0x20#8)])
      (fun t => t.c == 0x0031#16 && t.pc == 0x1002#16 && t.p == 0x30#8) = true := by
  decide

theorem test_T41_08_adcAbs :
    stepGives ({ start .m65816 false 0xFFFF#16 0x0000#16 0x0000#16 0x1FFF#16 0x01#8 [(0x1000, 0x6D#8), (0x1002, 0x20#8)] with dbr := 0x7E#8 })
      (fun t => t.c == 0x0000#16 && t.pc == 0x1003#16 && t.p == 0x03#8) = true := by
  decide

theorem test_T41_09_adcAbs :
    stepGives ({ start .m65816 false 0x0001#16 0x0000#16 0x0000#16 0x1FFF#16 0x00#8 [(0x1000, 0x6D#8), (0x1001, 0xFF#8), (0x1002, 0xFF#8), (0x1FFFF, 0x01#8), (0x20000, 0x02#8)] with dbr := 0x01#8 })
      (fun t => t.c == 0x0202#16 && t.pc == 0x1003#16) = true := by
  decide

theorem test_T41_16_sbcImm :
    stepGives (start .m6502 true 0x0000#16 0x0000#16 0x0000#16 0x01FF#16 0x31#8 [(0x1000, 0xE9#8), (0x1001, 0x01#8)])
      (fun t => t.c == 0x00FF#16 && t.pc == 0x1002#16 && t.p == 0xB0#8) = true := by
  decide

theorem test_T41_17_sbcImm :
    stepGives (start .m6502 true 0x0050#16 0x0000#16 0x0000#16 0x01FF#16 0x31#8 [(0x1000, 0xE9#8), (0x1001, 0xF0#8)])
      (fun t => t.c == 0x0060#16 && t.pc == 0x1002#16 && t.p == 0x30#8) = true := by
  decide

theorem test_T41_28_incDp :
    stepGives (start .m6502 true 0x0000#16 0x0000#16 0x0000#16 0x01FF#16 0x30#8 [(0x1000, 0xE6#8), (0x1001, 0x70#8), (0x70, 0x7F#8)])
      (fun t => t.pc == 0x1002#16 && t.p == 0xB0#8 && Memory.read t.mem 0x70 == 0x80#8) = true := by
  decide

theorem test_T41_30_incAbsX :
    stepGives (start .m6502 true 0x0000#16 0x000F#16 0x0000#16 0x01FF#16 0x30#8 [(0x1000, 0xFE#8), (0x1001, 0xF8#8), (0x1002, 0x20#8)])
      (fun t => t.pc == 0x1003#16 && Memory.read t.mem 0x2107 == 0x01#8) = true := by
  decide

theorem test_T41_31_decA :
    stepGives (start .m65C02 true 0x0001#16 0x0000#16 0x0000#16 0x01FF#16 0x30#8 [(0x1000, 0x3A#8)])
      (fun t => t.c == 0x0000#16 && t.pc == 0x1001#16 && t.p == 0x32#8) = true := by
  decide

theorem test_T41_33_incA :
    stepGives (start .m65C02 true 0x00FF#16 0x0000#16 0x0000#16 0x01FF#16 0x30#8 [(0x1000, 0x1A#8)])
      (fun t => t.c == 0x0000#16 && t.pc == 0x1001#16 && t.p == 0x32#8) = true := by
  decide

theorem test_T41_36_decAbs :
    stepGives (start .m65816 false 0x0000#16 0x0000#16 0x0000#16 0x1FFF#16 0x00#8 [(0x1000, 0xCE#8), (0x1002, 0x30#8)])
      (fun t => t.pc == 0x1003#16 && t.p == 0x80#8 && Memory.read t.mem 0x3000 == 0xFF#8 && Memory.read t.mem 0x3001 == 0xFF#8) = true := by
  decide

theorem test_T41_37_inx :
    stepGives (start .m6502 true 0x0000#16 0x00FF#16 0x0000#16 0x01FF#16 0x30#8 [(0x1000, 0xE8#8)])
      (fun t => t.x == 0x0000#16 && t.pc == 0x1001#16 && t.p == 0x32#8) = true := by
  decide

theorem test_T41_41_dey :
    stepGives (start .m6502 true 0x0000#16 0x0000#16 0x0000#16 0x01FF#16 0x30#8 [(0x1000, 0x88#8)])
      (fun t => t.y == 0x00FF#16 && t.pc == 0x1001#16 && t.p == 0xB0#8) = true := by
  decide

theorem test_T41_42_dex :
    stepGives (start .m6502 true 0x0000#16 0x0001#16 0x0000#16 0x01FF#16 0x30#8 [(0x1000, 0xCA#8)])
      (fun t => t.x == 0x0000#16 && t.pc == 0x1001#16 && t.p == 0x32#8) = true := by
  decide

theorem test_T41_43_iny :
    stepGives (start .m65816 false 0x0000#16 0x0000#16 0x7FFF#16 0x1FFF#16 0x00#8 [(0x1000, 0xC8#8)])
      (fun t => t.y == 0x8000#16 && t.pc == 0x1001#16 && t.p == 0x80#8) = true := by
  decide

theorem test_T42_01_andImm :
    stepGives (start .m6502 true 0x00F0#16 0x0000#16 0x0000#16 0x01FF#16 0x30#8 [(0x1000, 0x29#8), (0x1001, 0x0F#8)])
      (fun t => t.c == 0x0000#16 && t.pc == 0x1002#16 && t.p == 0x32#8) = true := by
  decide

theorem test_T42_03_oraImm :
    stepGives (start .m6502 true 0x00F0#16 0x0000#16 0x0000#16 0x01FF#16 0x71#8 [(0x1000, 0x09#8), (0x1001, 0x0F#8)])
      (fun t => t.c == 0x00FF#16 && t.pc == 0x1002#16 && t.p == 0xF1#8) = true := by
  decide

theorem test_T42_04_eorImm :
    stepGives (start .m6502 true 0x00FF#16 0x0000#16 0x0000#16 0x01FF#16 0x30#8 [(0x1000, 0x49#8), (0x1001, 0xFF#8)])
      (fun t => t.c == 0x0000#16 && t.pc == 0x1002#16 && t.p == 0x32#8) = true := by
  decide

theorem test_T42_09_bitDp :
    stepGives (start .m6502 true 0x0001#16 0x0000#16 0x0000#16 0x01FF#16 0x30#8 [(0x1000, 0x24#8), (0x1001, 0x70#8), (0x70, 0xC0#8)])
      (fun t => t.pc == 0x1002#16 && t.p == 0xF2#8) = true := by
  decide

theorem test_T42_10_bitAbs :
    stepGives (start .m6502 true 0x0040#16 0x0000#16 0x0000#16 0x01FF#16 0xF0#8 [(0x1000, 0x2C#8), (0x1002, 0x20#8), (0x2000, 0x40#8)])
      (fun t => t.pc == 0x1003#16 && t.p == 0x70#8) = true := by
  decide

theorem test_T42_11_bitImm :
    stepGives (start .m65C02 true 0x0001#16 0x0000#16 0x0000#16 0x01FF#16 0x30#8 [(0x1000, 0x89#8), (0x1001, 0xC0#8)])
      (fun t => t.pc == 0x1002#16 && t.p == 0x32#8) = true := by
  decide

theorem test_T42_15_aslA :
    stepGives (start .m6502 true 0x0081#16 0x0000#16 0x0000#16 0x01FF#16 0x30#8 [(0x1000, 0x0A#8)])
      (fun t => t.c == 0x0002#16 && t.pc == 0x1001#16 && t.p == 0x31#8) = true := by
  decide

theorem test_T42_16_aslA :
    stepGives (start .m6502 true 0x0080#16 0x0000#16 0x0000#16 0x01FF#16 0x30#8 [(0x1000, 0x0A#8)])
      (fun t => t.c == 0x0000#16 && t.pc == 0x1001#16 && t.p == 0x33#8) = true := by
  decide

theorem test_T42_17_aslDp :
    stepGives (start .m6502 true 0x0000#16 0x0000#16 0x0000#16 0x01FF#16 0x30#8 [(0x1000, 0x06#8), (0x1001, 0x70#8), (0x70, 0x40#8)])
      (fun t => t.pc == 0x1002#16 && t.p == 0xB0#8 && Memory.read t.mem 0x70 == 0x80#8) = true := by
  decide

theorem test_T42_20_lsrA :
    stepGives (start .m6502 true 0x0001#16 0x0000#16 0x0000#16 0x01FF#16 0xB0#8 [(0x1000, 0x4A#8)])
      (fun t => t.c == 0x0000#16 && t.pc == 0x1001#16 && t.p == 0x33#8) = true := by
  decide

theorem test_T42_21_lsrAbs :
    stepGives (start .m6502 true 0x0000#16 0x0000#16 0x0000#16 0x01FF#16 0x30#8 [(0x1000, 0x4E#8), (0x1002, 0x20#8), (0x2000, 0xFE#8)])
      (fun t => t.pc == 0x1003#16 && Memory.read t.mem 0x2000 == 0x7F#8) = true := by
  decide

theorem test_T42_22_lsrA :
    stepGives (start .m65816 false 0x8001#16 0x0000#16 0x0000#16 0x1FFF#16 0x00#8 [(0x1000, 0x4A#8)])
      (fun t => t.c == 0x4000#16 && t.pc == 0x1001#16 && t.p == 0x01#8) = true := by
  decide

theorem test_T42_23_rolA :
    stepGives (start .m6502 true 0x0080#16 0x0000#16 0x0000#16 0x01FF#16 0x31#8 [(0x1000, 0x2A#8)])
      (fun t => t.c == 0x0001#16 && t.pc == 0x1001#16) = true := by
  decide

theorem test_T42_24_rolA :
    stepGives (start .m6502 true 0x0040#16 0x0000#16 0x0000#16 0x01FF#16 0x30#8 [(0x1000, 0x2A#8)])
      (fun t => t.c == 0x0080#16 && t.pc == 0x1001#16 && t.p == 0xB0#8) = true := by
  decide

theorem test_T42_26_rorA :
    stepGives (start .m6502 true 0x0001#16 0x0000#16 0x0000#16 0x01FF#16 0x31#8 [(0x1000, 0x6A#8)])
      (fun t => t.c == 0x0080#16 && t.pc == 0x1001#16 && t.p == 0xB1#8) = true := by
  decide

theorem test_T42_27_rorA :
    stepGives (start .m6502 true 0x0001#16 0x0000#16 0x0000#16 0x01FF#16 0x30#8 [(0x1000, 0x6A#8)])
      (fun t => t.c == 0x0000#16 && t.pc == 0x1001#16 && t.p == 0x33#8) = true := by
  decide

theorem test_T42_29_rorDpX :
    stepGives (start .m6502 true 0x0000#16 0x0002#16 0x0000#16 0x01FF#16 0x31#8 [(0x1000, 0x76#8), (0x1001, 0xFF#8), (0x1, 0x02#8)])
      (fun t => t.pc == 0x1002#16 && t.p == 0xB0#8 && Memory.read t.mem 0x1 == 0x81#8) = true := by
  decide

theorem test_T42_30_trbDp :
    stepGives (start .m65C02 true 0x000F#16 0x0000#16 0x0000#16 0x01FF#16 0x30#8 [(0x1000, 0x14#8), (0x1001, 0x70#8), (0x70, 0x3C#8)])
      (fun t => t.pc == 0x1002#16 && Memory.read t.mem 0x70 == 0x30#8) = true := by
  decide

theorem test_T42_32_tsbDp :
    stepGives (start .m65C02 true 0x000F#16 0x0000#16 0x0000#16 0x01FF#16 0x30#8 [(0x1000, 0x04#8), (0x1001, 0x70#8), (0x70, 0x30#8)])
      (fun t => t.pc == 0x1002#16 && t.p == 0x32#8 && Memory.read t.mem 0x70 == 0x3F#8) = true := by
  decide

theorem test_T42_33_tsbAbs :
    stepGives (start .m65C02 true 0x000F#16 0x0000#16 0x0000#16 0x01FF#16 0x32#8 [(0x1000, 0x0C#8), (0x1002, 0x20#8), (0x2000, 0x01#8)])
      (fun t => t.pc == 0x1003#16 && t.p == 0x30#8 && Memory.read t.mem 0x2000 == 0x0F#8) = true := by
  decide

theorem test_T42_34_trbAbs :
    stepGives (start .m65816 false 0x8001#16 0x0000#16 0x0000#16 0x1FFF#16 0x00#8 [(0x1000, 0x1C#8), (0x1002, 0x20#8), (0x2000, 0xFF#8), (0x2001, 0xFF#8)])
      (fun t => t.pc == 0x1003#16 && Memory.read t.mem 0x2000 == 0xFE#8 && Memory.read t.mem 0x2001 == 0x7F#8) = true := by
  decide

theorem test_T43_01_clc :
    stepGives (start .m6502 true 0x0000#16 0x0000#16 0x0000#16 0x01FF#16 0xFF#8 [(0x1000, 0x18#8)])
      (fun t => t.pc == 0x1001#16 && t.p == 0xFE#8) = true := by
  decide

theorem test_T43_02_sec :
    stepGives (start .m6502 true 0x0000#16 0x0000#16 0x0000#16 0x01FF#16 0x30#8 [(0x1000, 0x38#8)])
      (fun t => t.pc == 0x1001#16 && t.p == 0x31#8) = true := by
  decide

theorem test_T43_03_cld :
    stepGives (start .m6502 true 0x0000#16 0x0000#16 0x0000#16 0x01FF#16 0xFF#8 [(0x1000, 0xD8#8)])
      (fun t => t.pc == 0x1001#16 && t.p == 0xF7#8) = true := by
  decide

theorem test_T43_04_sed :
    stepGives (start .m6502 true 0x0000#16 0x0000#16 0x0000#16 0x01FF#16 0x30#8 [(0x1000, 0xF8#8)])
      (fun t => t.pc == 0x1001#16 && t.p == 0x38#8) = true := by
  decide

theorem test_T43_05_cli :
    stepGives (start .m6502 true 0x0000#16 0x0000#16 0x0000#16 0x01FF#16 0xFF#8 [(0x1000, 0x58#8)])
      (fun t => t.pc == 0x1001#16 && t.p == 0xFB#8) = true := by
  decide

theorem test_T43_06_sei :
    stepGives (start .m6502 true 0x0000#16 0x0000#16 0x0000#16 0x01FF#16 0x30#8 [(0x1000, 0x78#8)])
      (fun t => t.pc == 0x1001#16 && t.p == 0x34#8) = true := by
  decide

theorem test_T43_07_clv :
    stepGives (start .m6502 true 0x0000#16 0x0000#16 0x0000#16 0x01FF#16 0xFF#8 [(0x1000, 0xB8#8)])
      (fun t => t.pc == 0x1001#16 && t.p == 0xBF#8) = true := by
  decide

theorem test_T43_08_rep :
    stepGives (start .m65816 false 0x0000#16 0x0012#16 0x0034#16 0x1FFF#16 0x30#8 [(0x1000, 0xC2#8), (0x1001, 0x30#8)])
      (fun t => t.pc == 0x1002#16 && t.p == 0x00#8) = true := by
  decide

theorem test_T43_09_sep :
    stepGives (start .m65816 false 0x5678#16 0x1234#16 0xABCD#16 0x1FFF#16 0x00#8 [(0x1000, 0xE2#8), (0x1001, 0x30#8)])
      (fun t => t.x == 0x0034#16 && t.y == 0x00CD#16 && t.pc == 0x1002#16 && t.p == 0x30#8) = true := by
  decide

theorem test_T43_10_sep :
    stepGives (start .m65816 false 0x5678#16 0x1234#16 0x0000#16 0x1FFF#16 0x00#8 [(0x1000, 0xE2#8), (0x1001, 0x20#8)])
      (fun t => t.pc == 0x1002#16 && t.p == 0x20#8) = true := by
  decide

theorem test_T43_11_rep :
    stepGives (start .m65816 false 0x0000#16 0x0000#16 0x0000#16 0x1FFF#16 0xFF#8 [(0x1000, 0xC2#8), (0x1001, 0xC3#8)])
      (fun t => t.pc == 0x1002#16 && t.p == 0x3C#8) = true := by
  decide

theorem test_T43_15_cmpImm :
    stepGives (start .m6502 true 0x0040#16 0x0000#16 0x0000#16 0x01FF#16 0x30#8 [(0x1000, 0xC9#8), (0x1001, 0x40#8)])
      (fun t => t.pc == 0x1002#16 && t.p == 0x33#8) = true := by
  decide

theorem test_T43_16_cmpImm :
    stepGives (start .m6502 true 0x0040#16 0x0000#16 0x0000#16 0x01FF#16 0x30#8 [(0x1000, 0xC9#8), (0x1001, 0x41#8)])
      (fun t => t.pc == 0x1002#16 && t.p == 0xB0#8) = true := by
  decide

theorem test_T43_22_cpxImm :
    stepGives (start .m6502 true 0x0000#16 0x0010#16 0x0000#16 0x01FF#16 0x30#8 [(0x1000, 0xE0#8), (0x1001, 0x0F#8)])
      (fun t => t.pc == 0x1002#16 && t.p == 0x31#8) = true := by
  decide

theorem test_T43_24_cpyDp :
    stepGives (start .m6502 true 0x0000#16 0x0000#16 0x0000#16 0x01FF#16 0x30#8 [(0x1000, 0xC4#8), (0x1001, 0x70#8), (0x70, 0x01#8)])
      (fun t => t.pc == 0x1002#16 && t.p == 0xB0#8) = true := by
  decide

theorem test_T43_25_bne :
    stepGives (start .m6502 true 0x0000#16 0x0000#16 0x0000#16 0x01FF#16 0x30#8 [(0x1000, 0xD0#8), (0x1001, 0xFB#8)])
      (fun t => t.pc == 0x0FFD#16) = true := by
  decide

theorem test_T43_27_beq :
    stepGives (start .m6502 true 0x0000#16 0x0000#16 0x0000#16 0x01FF#16 0x32#8 [(0x1000, 0xF0#8), (0x1001, 0x05#8)])
      (fun t => t.pc == 0x1007#16) = true := by
  decide

theorem test_T43_28_bcc :
    stepGives (start .m6502 true 0x0000#16 0x0000#16 0x0000#16 0x01FF#16 0x30#8 [(0x1000, 0x90#8), (0x1001, 0x7F#8)])
      (fun t => t.pc == 0x1081#16) = true := by
  decide

theorem test_T43_29_bcs :
    stepGives (start .m6502 true 0x0000#16 0x0000#16 0x0000#16 0x01FF#16 0x31#8 [(0x1000, 0xB0#8), (0x1001, 0x80#8)])
      (fun t => t.pc == 0x0F82#16) = true := by
  decide

theorem test_T43_30_bmi :
    stepGives (start .m6502 true 0x0000#16 0x0000#16 0x0000#16 0x01FF#16 0xB0#8 [(0x1000, 0x30#8), (0x1001, 0x02#8)])
      (fun t => t.pc == 0x1004#16) = true := by
  decide

theorem test_T43_31_bpl :
    stepGives (start .m6502 true 0x0000#16 0x0000#16 0x0000#16 0x01FF#16 0xB0#8 [(0x1000, 0x10#8), (0x1001, 0x02#8)])
      (fun t => t.pc == 0x1002#16) = true := by
  decide

theorem test_T43_32_bvc :
    stepGives (start .m6502 true 0x0000#16 0x0000#16 0x0000#16 0x01FF#16 0x30#8 [(0x1000, 0x50#8), (0x1001, 0xFE#8)])
      (fun t => t.pc == 0x1000#16) = true := by
  decide

theorem test_T43_33_bvs :
    stepGives (start .m6502 true 0x0000#16 0x0000#16 0x0000#16 0x01FF#16 0x70#8 [(0x1000, 0x70#8)])
      (fun t => t.pc == 0x1002#16) = true := by
  decide

theorem test_T43_37_bra :
    stepGives (start .m65C02 true 0x0000#16 0x0000#16 0x0000#16 0x01FF#16 0x30#8 [(0x1000, 0x80#8), (0x1001, 0x10#8)])
      (fun t => t.pc == 0x1012#16) = true := by
  decide

theorem test_T43_39_brl :
    stepGives ({ start .m65816 false 0x0000#16 0x0000#16 0x0000#16 0x1FFF#16 0x00#8 [(0x8000, 0x82#8), (0x8001, 0xFD#8), (0x8002, 0xFF#8)] with pc := 0x8000#16 })
      (fun t => t.pc == 0x8000#16) = true := by
  decide

theorem test_T43_41_jmpAbs :
    stepGives (start .m6502 true 0x0000#16 0x0000#16 0x0000#16 0x01FF#16 0x30#8 [(0x1000, 0x4C#8), (0x1001, 0x34#8), (0x1002, 0x12#8)])
      (fun t => t.pc == 0x1234#16) = true := by
  decide

theorem test_T43_42_jmpInd :
    stepGives (start .m6502 true 0x0000#16 0x0000#16 0x0000#16 0x01FF#16 0x30#8 [(0x1000, 0x6C#8), (0x1001, 0xFF#8), (0x1002, 0x20#8), (0x20FF, 0x34#8), (0x2000, 0x12#8), (0x2100, 0x56#8)])
      (fun t => t.pc == 0x1234#16) = true := by
  decide

theorem test_T43_45_jmpXInd :
    stepGives (start .m65C02 true 0x0000#16 0x0002#16 0x0000#16 0x01FF#16 0x30#8 [(0x1000, 0x7C#8), (0x1002, 0x30#8), (0x3002, 0x78#8), (0x3003, 0x56#8)])
      (fun t => t.pc == 0x5678#16) = true := by
  decide

theorem test_T43_47_jmpLong :
    stepGives ({ start .m65816 false 0x0000#16 0x0000#16 0x0000#16 0x1FFF#16 0x00#8 [(0x21000, 0x5C#8), (0x21001, 0x56#8), (0x21002, 0x34#8), (0x21003, 0x12#8)] with pbr := 0x02#8 })
      (fun t => t.pbr == 0x12#8 && t.pc == 0x3456#16) = true := by
  decide

theorem test_T43_48_jmpIndLong :
    stepGives ({ start .m65816 false 0x0000#16 0x0000#16 0x0000#16 0x1FFF#16 0x00#8 [(0x21000, 0xDC#8), (0x21002, 0x30#8), (0x3000, 0x56#8), (0x3001, 0x34#8), (0x3002, 0x12#8)] with pbr := 0x02#8 })
      (fun t => t.pbr == 0x12#8 && t.pc == 0x3456#16) = true := by
  decide

theorem test_T43_50_jsrAbs :
    stepGives (start .m6502 true 0x0000#16 0x0000#16 0x0000#16 0x01FF#16 0x30#8 [(0x1000, 0x20#8), (0x1002, 0x20#8)])
      (fun t => t.s == 0x01FD#16 && t.pc == 0x2000#16 && Memory.read t.mem 0x1FF == 0x10#8 && Memory.read t.mem 0x1FE == 0x02#8) = true := by
  decide

theorem test_T43_51_rts :
    stepGives ({ start .m6502 true 0x0000#16 0x0000#16 0x0000#16 0x01FD#16 0x30#8 [(0x2000, 0x60#8), (0x1FE, 0x02#8), (0x1FF, 0x10#8)] with pc := 0x2000#16 })
      (fun t => t.s == 0x01FF#16 && t.pc == 0x1003#16) = true := by
  decide

theorem test_T43_54_jsl :
    stepGives ({ start .m65816 false 0x0000#16 0x0000#16 0x0000#16 0x1FFF#16 0x00#8 [(0x18000, 0x22#8), (0x18001, 0x56#8), (0x18002, 0x34#8), (0x18003, 0x12#8)] with pbr := 0x01#8, pc := 0x8000#16 })
      (fun t => t.s == 0x1FFC#16 && t.pbr == 0x12#8 && t.pc == 0x3456#16 && Memory.read t.mem 0x1FFF == 0x01#8 && Memory.read t.mem 0x1FFE == 0x80#8 && Memory.read t.mem 0x1FFD == 0x03#8) = true := by
  decide

theorem test_T43_55_rtl :
    stepGives ({ start .m65816 false 0x0000#16 0x0000#16 0x0000#16 0x1FFC#16 0x00#8 [(0x123456, 0x6B#8), (0x1FFD, 0x03#8), (0x1FFE, 0x80#8), (0x1FFF, 0x01#8)] with pbr := 0x12#8, pc := 0x3456#16 })
      (fun t => t.s == 0x1FFF#16 && t.pbr == 0x01#8 && t.pc == 0x8004#16) = true := by
  decide

theorem test_T43_57_jsrXInd :
    stepGives ({ start .m65816 false 0x0000#16 0x0004#16 0x0000#16 0x1FFF#16 0x00#8 [(0x29000, 0xFC#8), (0x29002, 0x30#8), (0x23004, 0xCD#8), (0x23005, 0xAB#8)] with pbr := 0x02#8, pc := 0x9000#16 })
      (fun t => t.s == 0x1FFD#16 && t.pc == 0xABCD#16 && Memory.read t.mem 0x1FFF == 0x90#8 && Memory.read t.mem 0x1FFE == 0x02#8) = true := by
  decide

theorem test_T44_01_ldaImm :
    stepGives (start .m6502 true 0x0000#16 0x0000#16 0x0000#16 0x01FF#16 0x30#8 [(0x1000, 0xA9#8)])
      (fun t => t.pc == 0x1002#16 && t.p == 0x32#8) = true := by
  decide

theorem test_T44_02_ldaImm :
    stepGives (start .m6502 true 0x0000#16 0x0000#16 0x0000#16 0x01FF#16 0x32#8 [(0x1000, 0xA9#8), (0x1001, 0x80#8)])
      (fun t => t.c == 0x0080#16 && t.pc == 0x1002#16 && t.p == 0xB0#8) = true := by
  decide

theorem test_T44_05_ldaDpX :
    stepGives (start .m6502 true 0x0000#16 0x0010#16 0x0000#16 0x01FF#16 0x30#8 [(0x1000, 0xB5#8), (0x1001, 0xF8#8), (0x8, 0x5A#8)])
      (fun t => t.c == 0x005A#16 && t.pc == 0x1002#16) = true := by
  decide

theorem test_T44_06_ldaDpX :
    stepGives ({ start .m65816 false 0x0000#16 0x0010#16 0x0000#16 0x1FFF#16 0x00#8 [(0x1000, 0xB5#8), (0x1001, 0xF8#8), (0x2108, 0x34#8), (0x2109, 0x12#8)] with d := 0x2000#16 })
      (fun t => t.c == 0x1234#16 && t.pc == 0x1002#16) = true := by
  decide

theorem test_T44_09_ldaDpXInd :
    stepGives (start .m6502 true 0x0000#16 0x0004#16 0x0000#16 0x01FF#16 0x30#8 [(0x1000, 0xA1#8), (0x1001, 0x20#8), (0x24, 0x74#8), (0x25, 0x20#8), (0x2074, 0x99#8)])
      (fun t => t.c == 0x0099#16 && t.pc == 0x1002#16 && t.p == 0xB0#8) = true := by
  decide

theorem test_T44_10_ldaDpXInd :
    stepGives (start .m6502 true 0x0000#16 0x0000#16 0x0000#16 0x01FF#16 0x30#8 [(0x1000, 0xA1#8), (0x1001, 0xFF#8), (0xFF, 0x74#8), (0x0, 0x20#8), (0x2074, 0x99#8)])
      (fun t => t.c == 0x0099#16 && t.pc == 0x1002#16 && t.p == 0xB0#8) = true := by
  decide

theorem test_T44_11_ldaDpIndY :
    stepGives (start .m6502 true 0x0000#16 0x0000#16 0x0010#16 0x01FF#16 0x30#8 [(0x1000, 0xB1#8), (0x1001, 0x86#8), (0x86, 0x28#8), (0x87, 0x40#8), (0x4038, 0x77#8)])
      (fun t => t.c == 0x0077#16 && t.pc == 0x1002#16) = true := by
  decide

theorem test_T44_12_ldaDpIndY :
    stepGives (start .m6502 true 0x0000#16 0x0000#16 0x0002#16 0x01FF#16 0x30#8 [(0x1000, 0xB1#8), (0x1001, 0x86#8), (0x86, 0xFF#8), (0x87, 0xFF#8), (0x1, 0x77#8)])
      (fun t => t.c == 0x0077#16 && t.pc == 0x1002#16) = true := by
  decide

theorem test_T44_14_ldaDpInd :
    stepGives (start .m65C02 true 0x0000#16 0x0000#16 0x0000#16 0x01FF#16 0x30#8 [(0x1000, 0xB2#8), (0x1001, 0x86#8), (0x86, 0x28#8), (0x87, 0x40#8), (0x4028, 0x01#8)])
      (fun t => t.c == 0x0001#16 && t.pc == 0x1002#16) = true := by
  decide

theorem test_T44_15_ldaDpIndLong :
    stepGives ({ start .m65816 false 0x0000#16 0x0000#16 0x0000#16 0x1FFF#16 0x20#8 [(0x1000, 0xA7#8), (0x1001, 0x86#8), (0x86, 0x28#8), (0x87, 0x40#8), (0x88, 0x7E#8), (0x7E4028, 0xEE#8)] with dbr := 0x05#8 })
      (fun t => t.c == 0x00EE#16 && t.pc == 0x1002#16 && t.p == 0xA0#8) = true := by
  decide

theorem test_T44_16_ldaDpIndLongY :
    stepGives (start .m65816 false 0x0000#16 0x0000#16 0x0010#16 0x1FFF#16 0x20#8 [(0x1000, 0xB7#8), (0x1001, 0x86#8), (0x86, 0xF8#8), (0x87, 0xFF#8), (0x88, 0x7E#8), (0x7F0008, 0xEE#8)])
      (fun t => t.c == 0x00EE#16 && t.pc == 0x1002#16 && t.p == 0xA0#8) = true := by
  decide

theorem test_T44_17_ldaLong :
    stepGives (start .m65816 false 0x0000#16 0x0000#16 0x0000#16 0x1FFF#16 0x20#8 [(0x1000, 0xAF#8), (0x1001, 0x56#8), (0x1002, 0x34#8), (0x1003, 0x12#8), (0x123456, 0x80#8)])
      (fun t => t.c == 0x0080#16 && t.pc == 0x1004#16 && t.p == 0xA0#8) = true := by
  decide

theorem test_T44_18_ldaLongX :
    stepGives (start .m65816 false 0x0000#16 0x0010#16 0x0000#16 0x1FFF#16 0x20#8 [(0x1000, 0xBF#8), (0x1001, 0xF8#8), (0x1002, 0xFF#8), (0x1003, 0x12#8), (0x130008, 0x11#8)])
      (fun t => t.c == 0x0011#16 && t.pc == 0x1004#16) = true := by
  decide

theorem test_T44_19_ldaSr :
    stepGives (start .m65816 false 0x0000#16 0x0000#16 0x0000#16 0x1FF0#16 0x20#8 [(0x1000, 0xA3#8), (0x1001, 0x01#8), (0x1FF1, 0x42#8)])
      (fun t => t.c == 0x0042#16 && t.pc == 0x1002#16) = true := by
  decide

theorem test_T44_20_ldaSrIndY :
    stepGives ({ start .m65816 false 0x0000#16 0x0000#16 0x0001#16 0x1FF0#16 0x00#8 [(0x1000, 0xB3#8), (0x1001, 0x03#8), (0x1FF4, 0x40#8), (0x7E4001, 0xCD#8), (0x7E4002, 0xAB#8)] with dbr := 0x7E#8 })
      (fun t => t.c == 0xABCD#16 && t.pc == 0x1002#16 && t.p == 0x80#8) = true := by
  decide

theorem test_T44_21_ldaSr :
    stepGives (start .m65816 true 0x0000#16 0x0000#16 0x0000#16 0x01FF#16 0x30#8 [(0x1000, 0xA3#8), (0x1001, 0x02#8), (0x201, 0x42#8)])
      (fun t => t.c == 0x0042#16 && t.pc == 0x1002#16) = true := by
  decide

theorem test_T44_22_ldaAbsX :
    stepGives (start .m6502 true 0x0000#16 0x0002#16 0x0000#16 0x01FF#16 0x30#8 [(0x1000, 0xBD#8), (0x1001, 0xFF#8), (0x1002, 0xFF#8), (0x1, 0x33#8)])
      (fun t => t.c == 0x0033#16 && t.pc == 0x1003#16) = true := by
  decide

theorem test_T44_23_ldaAbsX :
    stepGives ({ start .m65816 false 0x0000#16 0x0002#16 0x0000#16 0x1FFF#16 0x20#8 [(0x1000, 0xBD#8), (0x1001, 0xFF#8), (0x1002, 0xFF#8), (0x20001, 0x33#8)] with dbr := 0x01#8 })
      (fun t => t.c == 0x0033#16 && t.pc == 0x1003#16) = true := by
  decide

theorem test_T44_24_ldxAbsY :
    stepGives (start .m6502 true 0x0000#16 0x0000#16 0x0003#16 0x01FF#16 0x30#8 [(0x1000, 0xBE#8), (0x1002, 0x20#8), (0x2003, 0x80#8)])
      (fun t => t.x == 0x0080#16 && t.pc == 0x1003#16 && t.p == 0xB0#8) = true := by
  decide

theorem test_T44_25_ldxDpY :
    stepGives (start .m6502 true 0x0000#16 0x0005#16 0x0003#16 0x01FF#16 0x30#8 [(0x1000, 0xB6#8), (0x1001, 0x70#8), (0x73, 0x11#8), (0x75, 0x22#8)])
      (fun t => t.x == 0x0011#16 && t.pc == 0x1002#16) = true := by
  decide

theorem test_T44_27_ldxImm :
    stepGives (start .m65816 false 0x0000#16 0x0000#16 0x0000#16 0x1FFF#16 0x20#8 [(0x1000, 0xA2#8), (0x1001, 0x34#8), (0x1002, 0x12#8)])
      (fun t => t.x == 0x1234#16 && t.pc == 0x1003#16) = true := by
  decide

theorem test_T44_28_ldyImm :
    stepGives (start .m65816 false 0x0000#16 0x0000#16 0x0000#16 0x1FFF#16 0x10#8 [(0x1000, 0xA0#8), (0x1001, 0x80#8)])
      (fun t => t.y == 0x0080#16 && t.pc == 0x1002#16 && t.p == 0x90#8) = true := by
  decide

theorem test_T44_29_staDp :
    stepGives (start .m6502 true 0x0042#16 0x0000#16 0x0000#16 0x01FF#16 0x30#8 [(0x1000, 0x85#8), (0x1001, 0x70#8)])
      (fun t => t.pc == 0x1002#16 && Memory.read t.mem 0x70 == 0x42#8) = true := by
  decide

theorem test_T44_30_staAbs :
    stepGives ({ start .m65816 false 0xBEEF#16 0x0000#16 0x0000#16 0x1FFF#16 0x00#8 [(0x1000, 0x8D#8), (0x1002, 0x20#8)] with dbr := 0x7E#8 })
      (fun t => t.pc == 0x1003#16 && Memory.read t.mem 0x7E2000 == 0xEF#8 && Memory.read t.mem 0x7E2001 == 0xBE#8) = true := by
  decide

theorem test_T44_31_staAbs :
    stepGives ({ start .m65816 false 0xBEEF#16 0x0000#16 0x0000#16 0x1FFF#16 0x00#8 [(0x1000, 0x8D#8), (0x1001, 0xFF#8), (0x1002, 0xFF#8)] with dbr := 0x7E#8 })
      (fun t => t.pc == 0x1003#16 && Memory.read t.mem 0x7EFFFF == 0xEF#8 && Memory.read t.mem 0x7F0000 == 0xBE#8) = true := by
  decide

theorem test_T44_32_staDp :
    stepGives ({ start .m65816 false 0xBEEF#16 0x0000#16 0x0000#16 0x1FFF#16 0x00#8 [(0x1000, 0x85#8), (0x1001, 0xFF#8)] with d := 0xFF00#16 })
      (fun t => t.pc == 0x1002#16 && Memory.read t.mem 0xFFFF == 0xEF#8 && Memory.read t.mem 0x0 == 0xBE#8) = true := by
  decide

theorem test_T44_34_stxDpY :
    stepGives (start .m6502 true 0x0000#16 0x0012#16 0x0004#16 0x01FF#16 0x30#8 [(0x1000, 0x96#8), (0x1001, 0x70#8)])
      (fun t => t.pc == 0x1002#16 && Memory.read t.mem 0x74 == 0x12#8) = true := by
  decide

theorem test_T44_35_stxAbs :
    stepGives (start .m65816 false 0x0000#16 0x1234#16 0x0000#16 0x1FFF#16 0x20#8 [(0x1000, 0x8E#8), (0x1002, 0x20#8)])
      (fun t => t.pc == 0x1003#16 && Memory.read t.mem 0x2000 == 0x34#8 && Memory.read t.mem 0x2001 == 0x12#8) = true := by
  decide

theorem test_T44_36_styDpX :
    stepGives (start .m6502 true 0x0000#16 0x0001#16 0x0034#16 0x01FF#16 0x30#8 [(0x1000, 0x94#8), (0x1001, 0x70#8)])
      (fun t => t.pc == 0x1002#16 && Memory.read t.mem 0x71 == 0x34#8) = true := by
  decide

theorem test_T44_37_stzDp :
    stepGives (start .m65C02 true 0x0000#16 0x0000#16 0x0000#16 0x01FF#16 0x30#8 [(0x1000, 0x64#8), (0x1001, 0x70#8)])
      (fun t => t.pc == 0x1002#16 && Memory.read t.mem 0x70 == 0x00#8) = true := by
  decide

theorem test_T44_38_stzAbs :
    stepGives (start .m65816 false 0x0000#16 0x0000#16 0x0000#16 0x1FFF#16 0x00#8 [(0x1000, 0x9C#8), (0x1002, 0x20#8)])
      (fun t => t.pc == 0x1003#16 && Memory.read t.mem 0x2000 == 0x00#8 && Memory.read t.mem 0x2001 == 0x00#8) = true := by
  decide

theorem test_T44_40_tax :
    stepGives (start .m6502 true 0x0080#16 0x0000#16 0x0000#16 0x01FF#16 0x30#8 [(0x1000, 0xAA#8)])
      (fun t => t.x == 0x0080#16 && t.pc == 0x1001#16 && t.p == 0xB0#8) = true := by
  decide

theorem test_T44_43_tay :
    stepGives (start .m65816 false 0x1200#16 0x0000#16 0x0000#16 0x1FFF#16 0x10#8 [(0x1000, 0xA8#8)])
      (fun t => t.pc == 0x1001#16 && t.p == 0x12#8) = true := by
  decide

theorem test_T44_44_txa :
    stepGives (start .m6502 true 0x0055#16 0x0000#16 0x0000#16 0x01FF#16 0x30#8 [(0x1000, 0x8A#8)])
      (fun t => t.c == 0x0000#16 && t.pc == 0x1001#16 && t.p == 0x32#8) = true := by
  decide

theorem test_T44_47_tya :
    stepGives (start .m65816 false 0x0000#16 0x0000#16 0x8000#16 0x1FFF#16 0x00#8 [(0x1000, 0x98#8)])
      (fun t => t.c == 0x8000#16 && t.pc == 0x1001#16 && t.p == 0x80#8) = true := by
  decide

theorem test_T44_48_tsx :
    stepGives (start .m6502 true 0x0000#16 0x0000#16 0x0000#16 0x01F0#16 0x30#8 [(0x1000, 0xBA#8)])
      (fun t => t.x == 0x00F0#16 && t.pc == 0x1001#16 && t.p == 0xB0#8) = true := by
  decide

theorem test_T44_51_txs :
    stepGives (start .m6502 true 0x0000#16 0x0080#16 0x0000#16 0x01FF#16 0x32#8 [(0x1000, 0x9A#8)])
      (fun t => t.s == 0x0180#16 && t.pc == 0x1001#16) = true := by
  decide

theorem test_T44_54_txy :
    stepGives (start .m65816 false 0x0000#16 0x1234#16 0x0000#16 0x1FFF#16 0x00#8 [(0x1000, 0x9B#8)])
      (fun t => t.y == 0x1234#16 && t.pc == 0x1001#16) = true := by
  decide

theorem test_T44_55_tyx :
    stepGives (start .m65816 false 0x0000#16 0x0000#16 0x8000#16 0x1FFF#16 0x00#8 [(0x1000, 0xBB#8)])
      (fun t => t.x == 0x8000#16 && t.pc == 0x1001#16 && t.p == 0x80#8) = true := by
  decide

theorem test_T44_56_tcd :
    stepGives (start .m65816 false 0x8000#16 0x0000#16 0x0000#16 0x1FFF#16 0x20#8 [(0x1000, 0x5B#8)])
      (fun t => t.d == 0x8000#16 && t.pc == 0x1001#16 && t.p == 0xA0#8) = true := by
  decide

theorem test_T44_57_tdc :
    stepGives (start .m65816 false 0x1234#16 0x0000#16 0x0000#16 0x1FFF#16 0x20#8 [(0x1000, 0x7B#8)])
      (fun t => t.c == 0x0000#16 && t.pc == 0x1001#16 && t.p == 0x22#8) = true := by
  decide

theorem test_T44_58_tcs :
    stepGives (start .m65816 false 0x1234#16 0x0000#16 0x0000#16 0x1FFF#16 0x02#8 [(0x1000, 0x1B#8)])
      (fun t => t.s == 0x1234#16 && t.pc == 0x1001#16) = true := by
  decide

theorem test_T44_60_tsc :
    stepGives (start .m65816 false 0x0000#16 0x0000#16 0x0000#16 0x8000#16 0x00#8 [(0x1000, 0x3B#8)])
      (fun t => t.c == 0x8000#16 && t.pc == 0x1001#16 && t.p == 0x80#8) = true := by
  decide

theorem test_T44_61_xba :
    stepGives (start .m65816 false 0x1280#16 0x0000#16 0x0000#16 0x1FFF#16 0x00#8 [(0x1000, 0xEB#8)])
      (fun t => t.c == 0x8012#16 && t.pc == 0x1001#16) = true := by
  decide

theorem test_T45_01_pha :
    stepGives (start .m6502 true 0x0042#16 0x0000#16 0x0000#16 0x01FF#16 0x30#8 [(0x1000, 0x48#8)])
      (fun t => t.s == 0x01FE#16 && t.pc == 0x1001#16 && Memory.read t.mem 0x1FF == 0x42#8) = true := by
  decide

theorem test_T45_05_pla :
    stepGives (start .m6502 true 0x0000#16 0x0000#16 0x0000#16 0x01FE#16 0x30#8 [(0x1000, 0x68#8), (0x1FF, 0x80#8)])
      (fun t => t.c == 0x0080#16 && t.s == 0x01FF#16 && t.pc == 0x1001#16 && t.p == 0xB0#8) = true := by
  decide

theorem test_T45_08_php :
    stepGives (start .m6502 true 0x0000#16 0x0000#16 0x0000#16 0x01FF#16 0xF3#8 [(0x1000, 0x08#8)])
      (fun t => t.s == 0x01FE#16 && t.pc == 0x1001#16 && Memory.read t.mem 0x1FF == 0xF3#8) = true := by
  decide

theorem test_T45_09_php :
    stepGives (start .m65816 false 0x0000#16 0x0000#16 0x0000#16 0x1FFF#16 0xC3#8 [(0x1000, 0x08#8)])
      (fun t => t.s == 0x1FFE#16 && t.pc == 0x1001#16 && Memory.read t.mem 0x1FFF == 0xC3#8) = true := by
  decide

theorem test_T45_10_plp :
    stepGives (start .m6502 true 0x0000#16 0x0000#16 0x0000#16 0x01FE#16 0x30#8 [(0x1000, 0x28#8), (0x1FF, 0xCF#8)])
      (fun t => t.s == 0x01FF#16 && t.pc == 0x1001#16 && t.p == 0xFF#8) = true := by
  decide

theorem test_T45_11_plp :
    stepGives (start .m65816 false 0x0000#16 0x1234#16 0x5678#16 0x1FFE#16 0x00#8 [(0x1000, 0x28#8), (0x1FFF, 0x30#8)])
      (fun t => t.x == 0x0034#16 && t.y == 0x0078#16 && t.s == 0x1FFF#16 && t.pc == 0x1001#16 && t.p == 0x30#8) = true := by
  decide

theorem test_T45_12_phx :
    stepGives (start .m65C02 true 0x0000#16 0x0011#16 0x0000#16 0x01FF#16 0x30#8 [(0x1000, 0xDA#8)])
      (fun t => t.s == 0x01FE#16 && t.pc == 0x1001#16 && Memory.read t.mem 0x1FF == 0x11#8) = true := by
  decide

theorem test_T45_13_phy :
    stepGives (start .m65816 false 0x0000#16 0x0000#16 0xBEEF#16 0x1FFF#16 0x00#8 [(0x1000, 0x5A#8)])
      (fun t => t.s == 0x1FFD#16 && t.pc == 0x1001#16 && Memory.read t.mem 0x1FFF == 0xBE#8 && Memory.read t.mem 0x1FFE == 0xEF#8) = true := by
  decide

theorem test_T45_14_plx :
    stepGives (start .m65C02 true 0x0000#16 0x0000#16 0x0000#16 0x01FE#16 0x30#8 [(0x1000, 0xFA#8)])
      (fun t => t.s == 0x01FF#16 && t.pc == 0x1001#16 && t.p == 0x32#8) = true := by
  decide

theorem test_T45_15_ply :
    stepGives (start .m65816 false 0x0000#16 0x0000#16 0x0000#16 0x1FF0#16 0x00#8 [(0x1000, 0x7A#8), (0x1FF1, 0x34#8), (0x1FF2, 0x12#8)])
      (fun t => t.y == 0x1234#16 && t.s == 0x1FF2#16 && t.pc == 0x1001#16) = true := by
  decide

theorem test_T45_17_phb :
    stepGives ({ start .m65816 false 0x0000#16 0x0000#16 0x0000#16 0x1FFF#16 0x00#8 [(0x1000, 0x8B#8)] with dbr := 0x7E#8 })
      (fun t => t.s == 0x1FFE#16 && t.pc == 0x1001#16 && Memory.read t.mem 0x1FFF == 0x7E#8) = true := by
  decide

theorem test_T45_18_phd :
    stepGives ({ start .m65816 false 0x0000#16 0x0000#16 0x0000#16 0x1FFF#16 0x00#8 [(0x1000, 0x0B#8)] with d := 0x1234#16 })
      (fun t => t.s == 0x1FFD#16 && t.pc == 0x1001#16 && Memory.read t.mem 0x1FFF == 0x12#8 && Memory.read t.mem 0x1FFE == 0x34#8) = true := by
  decide

theorem test_T45_19_phk :
    stepGives ({ start .m65816 false 0x0000#16 0x0000#16 0x0000#16 0x1FFF#16 0x00#8 [(0x51000, 0x4B#8)] with pbr := 0x05#8 })
      (fun t => t.s == 0x1FFE#16 && t.pc == 0x1001#16 && Memory.read t.mem 0x1FFF == 0x05#8) = true := by
  decide

theorem test_T45_20_plb :
    stepGives (start .m65816 false 0x0000#16 0x0000#16 0x0000#16 0x1FFE#16 0x00#8 [(0x1000, 0xAB#8), (0x1FFF, 0x80#8)])
      (fun t => t.s == 0x1FFF#16 && t.dbr == 0x80#8 && t.pc == 0x1001#16 && t.p == 0x80#8) = true := by
  decide

theorem test_T45_21_pld :
    stepGives (start .m65816 false 0x0000#16 0x0000#16 0x0000#16 0x1FFD#16 0x00#8 [(0x1000, 0x2B#8)])
      (fun t => t.s == 0x1FFF#16 && t.pc == 0x1001#16 && t.p == 0x02#8) = true := by
  decide

theorem test_T45_22_pea :
    stepGives (start .m65816 false 0x0000#16 0x0000#16 0x0000#16 0x1FFF#16 0x00#8 [(0x1000, 0xF4#8), (0x1001, 0x34#8), (0x1002, 0x12#8)])
      (fun t => t.s == 0x1FFD#16 && t.pc == 0x1003#16 && Memory.read t.mem 0x1FFF == 0x12#8 && Memory.read t.mem 0x1FFE == 0x34#8) = true := by
  decide

theorem test_T45_23_pei :
    stepGives ({ start .m65816 false 0x0000#16 0x0000#16 0x0000#16 0x1FFF#16 0x00#8 [(0x1000, 0xD4#8), (0x1001, 0x20#8), (0x30, 0xCD#8), (0x31, 0xAB#8)] with d := 0x0010#16 })
      (fun t => t.s == 0x1FFD#16 && t.pc == 0x1002#16 && Memory.read t.mem 0x1FFF == 0xAB#8 && Memory.read t.mem 0x1FFE == 0xCD#8) = true := by
  decide

theorem test_T45_24_per :
    stepGives ({ start .m65816 false 0x0000#16 0x0000#16 0x0000#16 0x1FFF#16 0x00#8 [(0x8000, 0x62#8), (0x8001, 0x10#8)] with pc := 0x8000#16 })
      (fun t => t.s == 0x1FFD#16 && t.pc == 0x8003#16 && Memory.read t.mem 0x1FFF == 0x80#8 && Memory.read t.mem 0x1FFE == 0x13#8) = true := by
  decide

theorem test_T46_01_brk :
    stepGives (start .m6502 true 0x0000#16 0x0000#16 0x0000#16 0x01FF#16 0x38#8 [(0x1001, 0xAA#8), (0xFFFB, 0x90#8), (0xFFFD, 0xC0#8), (0xFFFF, 0x80#8)])
      (fun t => t.s == 0x01FC#16 && t.pc == 0x8000#16 && t.p == 0x3C#8 && Memory.read t.mem 0x1FF == 0x10#8 && Memory.read t.mem 0x1FE == 0x02#8 && Memory.read t.mem 0x1FD == 0x38#8) = true := by
  decide

theorem test_T46_02_brk :
    stepGives (start .m65C02 true 0x0000#16 0x0000#16 0x0000#16 0x01FF#16 0x38#8 [(0x1001, 0xAA#8), (0xFFFB, 0x90#8), (0xFFFD, 0xC0#8), (0xFFFF, 0x80#8)])
      (fun t => t.s == 0x01FC#16 && t.pc == 0x8000#16 && t.p == 0x34#8 && Memory.read t.mem 0x1FF == 0x10#8 && Memory.read t.mem 0x1FE == 0x02#8 && Memory.read t.mem 0x1FD == 0x38#8) = true := by
  decide

theorem test_T46_05_cop :
    stepGives (start .m65816 true 0x0000#16 0x0000#16 0x0000#16 0x01FF#16 0x38#8 [(0x1000, 0x02#8), (0x1001, 0x10#8), (0xFFFB, 0x90#8), (0xFFFD, 0xC0#8), (0xFFFF, 0x80#8), (0xFFE5, 0xA0#8), (0xFFE7, 0xA1#8), (0xFFEB, 0xA2#8), (0xFFEF, 0xA3#8), (0xFFF5, 0xB0#8)])
      (fun t => t.s == 0x01FC#16 && t.pc == 0xB000#16 && t.p == 0x34#8 && Memory.read t.mem 0x1FF == 0x10#8 && Memory.read t.mem 0x1FE == 0x02#8 && Memory.read t.mem 0x1FD == 0x38#8) = true := by
  decide

theorem test_T46_08_rti :
    stepGives ({ start .m6502 true 0x0000#16 0x0000#16 0x0000#16 0x01FC#16 0x34#8 [(0x8000, 0x40#8), (0x1FD, 0x30#8), (0x1FE, 0x02#8), (0x1FF, 0x10#8), (0xFFFB, 0x90#8), (0xFFFD, 0xC0#8), (0xFFFF, 0x80#8)] with pc := 0x8000#16 })
      (fun t => t.s == 0x01FF#16 && t.pc == 0x1002#16 && t.p == 0x30#8) = true := by
  decide

theorem test_T46_09_rti :
    stepGives ({ start .m6502 true 0x0000#16 0x0000#16 0x0000#16 0x01FC#16 0x34#8 [(0x8000, 0x40#8), (0x1FD, 0xCB#8), (0x1FE, 0x02#8), (0x1FF, 0x10#8), (0xFFFB, 0x90#8), (0xFFFD, 0xC0#8), (0xFFFF, 0x80#8)] with pc := 0x8000#16 })
      (fun t => t.s == 0x01FF#16 && t.pc == 0x1002#16 && t.p == 0xFB#8) = true := by
  decide

theorem test_T46_12_nop :
    stepGives ({ start .m6502 true 0x0000#16 0x0000#16 0x0000#16 0x01FF#16 0x30#8 [(0x1000, 0xEA#8), (0xFFFB, 0x90#8), (0xFFFD, 0xC0#8), (0xFFFF, 0x80#8)] with irqLine := true })
      (fun t => t.s == 0x01FC#16 && t.pc == 0x8000#16 && t.p == 0x34#8 && Memory.read t.mem 0x1FF == 0x10#8 && Memory.read t.mem 0x1FE == 0x00#8 && Memory.read t.mem 0x1FD == 0x20#8) = true := by
  decide

theorem test_T46_19_wai :
    stepGives (start .m65816 false 0x0000#16 0x0000#16 0x0000#16 0x1FFF#16 0x00#8 [(0x1000, 0xCB#8), (0xFFFB, 0x90#8), (0xFFFD, 0xC0#8), (0xFFFF, 0x80#8), (0xFFE5, 0xA0#8), (0xFFE7, 0xA1#8), (0xFFEB, 0xA2#8), (0xFFEF, 0xA3#8), (0xFFF5, 0xB0#8)])
      (fun t => t.pc == 0x1001#16 && t.run == .waiting) = true := by
  decide

theorem test_T47_01_mvn :
    stepGives (start .m65816 false 0x0002#16 0x1000#16 0x2000#16 0x1FFF#16 0x00#8 [(0x1000, 0x54#8), (0x1001, 0x02#8), (0x1002, 0x01#8), (0x11000, 0xAA#8)])
      (fun t => t.c == 0x0001#16 && t.x == 0x1001#16 && t.y == 0x2001#16 && t.dbr == 0x02#8 && t.pc == 0x1000#16 && Memory.read t.mem 0x22000 == 0xAA#8) = true := by
  decide

theorem test_T47_05_mvp :
    stepGives ({ start .m65816 false 0x0001#16 0x3001#16 0x3002#16 0x1FFF#16 0x00#8 [(0x8000, 0x44#8), (0x3001, 0x22#8)] with pc := 0x8000#16 })
      (fun t => t.c == 0x0000#16 && t.x == 0x3000#16 && t.y == 0x3001#16 && t.pc == 0x8000#16 && Memory.read t.mem 0x3002 == 0x22#8) = true := by
  decide

theorem test_T47_07_xce :
    stepGives (start .m65816 true 0x0000#16 0x0000#16 0x0000#16 0x01FF#16 0x30#8 [(0x1000, 0xFB#8)])
      (fun t => t.pc == 0x1001#16 && t.p == 0x31#8 && !t.e) = true := by
  decide

theorem test_T47_08_xce :
    stepGives (start .m65816 false 0xABCD#16 0x1234#16 0x5678#16 0x1FF0#16 0x01#8 [(0x1000, 0xFB#8)])
      (fun t => t.x == 0x0034#16 && t.y == 0x0078#16 && t.s == 0x01F0#16 && t.pc == 0x1001#16 && t.p == 0x30#8 && t.e) = true := by
  decide

theorem test_T47_13_wdm :
    stepGives (start .m65816 false 0x0000#16 0x0000#16 0x0000#16 0x1FFF#16 0x00#8 [(0x1000, 0x42#8), (0x1001, 0xFF#8)])
      (fun t => t.pc == 0x1002#16) = true := by
  decide

theorem test_T47_15_stp :
    stepGives (start .m65816 false 0x0000#16 0x0000#16 0x0000#16 0x1FFF#16 0x00#8 [(0x1000, 0xDB#8)])
      (fun t => t.pc == 0x1001#16 && t.run == .stopped) = true := by
  decide

/-! ## The hypotheses of the statements can be met -/

/-- A 6502 with RAM everywhere. -/
def narrowState : State := start .m6502 true 0x0012#16 0x0034#16 0x0056#16 0x01FF#16 0x30#8 [(0x1000, 0xEA#8)]

/-- A 65816 in native mode with 16-bit registers. -/
def nativeState : State := start .m65816 false 0x1234#16 0x5678#16 0x9ABC#16 0x1FFF#16 0x00#8 [(0x1000, 0xEA#8)]

/-- A 65816 in emulation mode. -/
def emulationState (s : Word) : State := start .m65816 true 0x1234#16 0x0078#16 0x00BC#16 s 0x30#8 [(0x1000, 0xEA#8)]

/-- A native-mode 65816 with a device at 0x4001 that extra bus cycles disturb. -/
def deviceState : State :=
  { nativeState with
    cfg := { State.resetConfig with regions := [{ base := 0x4001, size := 1, kind := .device false }] } }

theorem test_hyp_narrow_inv : narrowState.cfg.variant ≠ .m65816 ∧ narrowState.Inv :=
  ⟨by decide, by constructor <;> decide⟩

theorem test_hyp_native_inv : nativeState.e = false ∧ nativeState.Inv := ⟨rfl, by constructor <;> decide⟩

theorem test_hyp_emulation_inv : (emulationState 0x01FF#16).e = true ∧ (emulationState 0x01FF#16).Inv :=
  ⟨rfl, by constructor <;> decide⟩

/-- DecodeOfEncodeIsTheInstruction: an immediate at each width, a 65816-only instruction, one of every variant. -/
theorem test_hyp_well_formed :
    Instr.wellFormed .m65816 .w16 .w8 (.adcImm 0xFFFF#16) = true ∧ Instr.wellFormed .m6502 .w8 .w8 (.adcImm 0x00FF#16) = true ∧
    Instr.wellFormed .m65816 .w8 .w8 (.jsl 0xFFFFFF#24) = true ∧ Instr.wellFormed .m65C02 .w8 .w8 .phx = true := by
  decide

/-- EncodeOfDecodeIsTheBytes. -/
theorem test_hyp_decodes :
    decode .m6502 .w8 .w8 [0xAD#8, 0x34#8, 0x12#8, 0xEA#8] = .ok (.ldaAbs 0x1234#16, [0xEA#8]) := by decide

/-- MemoryReadsWhatWasLastWritten, Pushes, SoftwareInterrupts, CallAndReturn, BlockMoveStep: a canonical memory, with the
first and the last address listed. -/
theorem test_hyp_memory_wf : Memory.wf [(0, 0x01#8), (0xFFFFFF, 0xFF#8)] = true ∧ Memory.wf nativeState.mem = true := by decide

/-- Memories that are not canonical: out of order, an unlisted value listed, an address outside the space. -/
theorem test_memory_not_wf :
    Memory.wf [(5, 0x01#8), (3, 0x01#8)] = false ∧ Memory.wf [(5, 0x00#8)] = false ∧ Memory.wf [(0x1000000, 0x01#8)] = false := by
  decide

/-- LinearLocations65816. -/
theorem test_hyp_is_65816 : nativeState.cfg.variant = .m65816 := rfl

/-- AdcBinary… and SbcBinary…: d clear. -/
theorem test_hyp_binary : adcForm (.abs 0x2000#16) = some ⟨0x6D#8, .m6502, .adcAbs 0x2000#16⟩ ∧
    sbcForm (.immM 0x0001#16) = some ⟨0xE9#8, .m6502, .sbcImm 0x0001#16⟩ ∧ nativeState.flag .d = false := by decide

/-- AdcDecimal… and SbcDecimal…: d set, at both widths, with operands that are BCD and operands that are not. -/
theorem test_hyp_decimal :
    let s := { nativeState with p := 0x08#8 }
    let b := { narrowState with p := 0x38#8 }
    s.flag .d = true ∧ b.flag .d = true ∧ s.wA = .w16 ∧ b.wA = .w8 ∧ validBcd .w16 (s.acc .w16) = true ∧
    validBcd .w8 (b.acc .w8) = true ∧ validBcd .w16 0x9999#16 = true ∧ validBcd .w16 0x999A#16 = false ∧
    validBcd .w8 0x0099#16 = true ∧ validBcd .w8 0x009A#16 = false ∧ s.cfg.variant ≠ .m6502 := by decide

/-- BcdAndDecimalValueAreInverse and OverflowMeansSignedRangeLeft: the ends of the ranges. -/
theorem test_hyp_values :
    99 < Width.w8.decimalBase ∧ 9999 < Width.w16.decimalBase ∧ lowBits .w8 0x0099#16 = 0x0099#16 ∧
    lowBits .w8 0x0080#16 = 0x0080#16 ∧ lowBits .w8 0x007F#16 = 0x007F#16 ∧ lowBits .w16 0x8000#16 = 0x8000#16 := by decide

/-- IncrementsAndDecrements, ShiftsAndRotates, TestAndModifyBits: forms off the device, the accumulator's among them; 0x4000 at
width 16 reaches the device, 0x4002 does not. -/
theorem test_hyp_read_modify_write :
    incForm (.absX 0x2000#16) = some ⟨0xFE#8, .m6502, .incAbsX 0x2000#16⟩ ∧ decForm .acc = some ⟨0x3A#8, .m65C02, .decA⟩ ∧
    aslForm .acc = some ⟨0x0A#8, .m6502, .aslA⟩ ∧ lsrForm (.dp 0x10#8) = some ⟨0x46#8, .m6502, .lsrDp 0x10#8⟩ ∧
    rolForm (.dpX 0x10#8) = some ⟨0x36#8, .m6502, .rolDpX 0x10#8⟩ ∧ rorForm (.abs 0x2000#16) = some ⟨0x6E#8, .m6502, .rorAbs 0x2000#16⟩ ∧
    trbForm (.dp 0x10#8) = some ⟨0x14#8, .m65C02, .trbDp 0x10#8⟩ ∧ tsbForm (.abs 0x2000#16) = some ⟨0x0C#8, .m65C02, .tsbAbs 0x2000#16⟩ ∧
    Memory.wf deviceState.mem = true := by decide

theorem test_hyp_off_the_device : ¬ deviceState.onSensitiveDevice ((Operand.abs 0x4002#16).loc deviceState) .w16 :=
  mt (State.meetsSensitiveDevice_iff _ _ _).mpr (by decide)

/-- ReadModifyWriteOfDevicesRefused, by the low byte and by the high byte. -/
theorem test_hyp_on_the_device :
    deviceState.onSensitiveDevice ((Operand.abs 0x4001#16).loc deviceState) .w8 ∧
    deviceState.onSensitiveDevice ((Operand.abs 0x4000#16).loc deviceState) .w16 :=
  ⟨(State.meetsSensitiveDevice_iff _ _ _).mp (by decide), (State.meetsSensitiveDevice_iff _ _ _).mp (by decide)⟩

theorem test_hyp_rmw_forms : some ⟨0xEE#8, .m6502, .incAbs 0x4000#16⟩ ∈ rmwForms (.abs 0x4000#16) := by decide

/-- At width 8 the byte after is not accessed. -/
theorem test_low_byte_alone : ¬ deviceState.onSensitiveDevice ((Operand.abs 0x4000#16).loc deviceState) .w8 :=
  mt (State.meetsSensitiveDevice_iff _ _ _).mpr (by decide)

/-- The device state with D at 0x4000 and both index registers 1. -/
def indexState : State := { deviceState with x := 0x0001#16, y := 0x0001#16, d := 0x4000#16 }

/-- The statements of instructions that access their operand once: an indexed operand next to the device, on either side, and
an operand on the device that is not indexed. -/
theorem test_hyp_off_indexed_device :
    ¬ (Operand.absX 0x3FFE#16).onIndexedDevice indexState .w16 ∧ ¬ (Operand.absY 0x4001#16).onIndexedDevice indexState .w16 ∧
    ¬ (Operand.dpX 0x01#8).onIndexedDevice indexState .w16 ∧ ¬ (Operand.dpXInd 0x01#8).onIndexedDevice indexState .w16 ∧
    ¬ (Operand.longX 0x003FFF#24).onIndexedDevice indexState .w8 ∧ ¬ (Operand.abs 0x4001#16).onIndexedDevice indexState .w16 ∧
    ¬ indexState.onSensitiveDevice (indexState.absXIndLoc 0x4001#16) .w16 :=
  ⟨accessOnce_next_iff (t := indexState) |>.mp rfl, accessOnce_next_iff (t := indexState) |>.mp rfl,
    accessOnce_next_iff (t := indexState) |>.mp rfl, accessOnce_next_iff (t := indexState) |>.mp rfl,
    accessOnce_next_iff (t := indexState) |>.mp rfl, accessOnce_next_iff (t := indexState) |>.mp rfl,
    mt (State.meetsSensitiveDevice_iff _ _ _).mpr (by decide)⟩

/-- IndexedAccessesOfDevicesRefused: by the low byte, by the high byte, by the pointer of `(dp,X)` and of `(addr,X)`. -/
theorem test_hyp_on_indexed_device :
    (Operand.absX 0x4000#16).onIndexedDevice indexState .w8 ∧ (Operand.absY 0x3FFF#16).onIndexedDevice indexState .w16 ∧
    (Operand.dpY 0x00#8).onIndexedDevice indexState .w16 ∧ (Operand.dpXInd 0x00#8).onIndexedDevice indexState .w8 ∧
    indexState.onSensitiveDevice (indexState.absXIndLoc 0x3FFF#16) .w16 :=
  ⟨accessOnce_refused_iff (t := indexState) |>.mp rfl, accessOnce_refused_iff (t := indexState) |>.mp rfl,
    accessOnce_refused_iff (t := indexState) |>.mp rfl, accessOnce_refused_iff (t := indexState) |>.mp rfl,
    (State.meetsSensitiveDevice_iff _ _ _).mp (by decide)⟩

theorem test_hyp_access_forms :
    some ⟨0xBD#8, .m6502, .ldaAbsX 0x4000#16⟩ ∈ accessFormsM (.absX 0x4000#16) ∧
    some ⟨0x96#8, .m6502, .stxDpY 0x00#8⟩ ∈ accessFormsX (.dpY 0x00#8) := by decide

/-- U13: an indexed read, an indexed write and an indexed pointer on the device are refused; the same bytes not indexed are
accessed. -/
theorem test_indexed_device :
    exec (.ldaAbsX 0x4000#16) indexState = .refused .deviceRMW ∧ exec (.staDpX 0x00#8) indexState = .refused .deviceRMW ∧
    exec (.jsrXInd 0x4000#16) indexState = .refused .deviceRMW ∧
    outcomeGives (exec (.staAbs 0x4001#16) indexState) (fun t => t.pc == 0x1003#16) = true := ⟨rfl, rfl, rfl, by decide⟩

/-- LogicalInstructions, BitTest, Compares, LoadAccumulator, LoadIndexRegisters, Stores: a form of each. -/
theorem test_hyp_forms :
    andForm (.sr 0x01#8) = some ⟨0x23#8, .m65816, .andSr 0x01#8⟩ ∧ eorForm (.dpInd 0x01#8) = some ⟨0x52#8, .m65C02, .eorDpInd 0x01#8⟩ ∧
    oraForm (.longX 0x7E0000#24) = some ⟨0x1F#8, .m65816, .oraLongX 0x7E0000#24⟩ ∧ bitForm (.dp 0x01#8) = some ⟨0x24#8, .m6502, .bitDp 0x01#8⟩ ∧
    cmpForm (.immM 0x0001#16) = some ⟨0xC9#8, .m6502, .cmpImm 0x0001#16⟩ ∧ cpxForm (.immX 0x0001#16) = some ⟨0xE0#8, .m6502, .cpxImm 0x0001#16⟩ ∧
    cpyForm (.dp 0x01#8) = some ⟨0xC4#8, .m6502, .cpyDp 0x01#8⟩ ∧ ldaForm (.srIndY 0x01#8) = some ⟨0xB3#8, .m65816, .ldaSrIndY 0x01#8⟩ ∧
    ldxForm (.abs 0x2000#16) = some ⟨0xAE#8, .m6502, .ldxAbs 0x2000#16⟩ ∧ ldyForm (.dpX 0x01#8) = some ⟨0xB4#8, .m6502, .ldyDpX 0x01#8⟩ ∧
    staForm (.dpIndLongY 0x01#8) = some ⟨0x97#8, .m65816, .staDpIndLongY 0x01#8⟩ ∧ stxForm (.dpY 0x01#8) = some ⟨0x96#8, .m6502, .stxDpY 0x01#8⟩ ∧
    styForm (.abs 0x2000#16) = some ⟨0x8C#8, .m6502, .styAbs 0x2000#16⟩ ∧ stzForm (.absX 0x2000#16) = some ⟨0x9E#8, .m65C02, .stzAbsX 0x2000#16⟩ := by
  decide

/-- StatusFlagInstructions and Branches: members of the lists, a branch taken and one not taken. -/
theorem test_hyp_flag_and_branch_forms :
    ⟨⟨0xB8#8, .m6502, .clv⟩, .v, false⟩ ∈ flagForms ∧ ⟨⟨0xF0#8, .m6502, .beq 0x80#8⟩, .z, true⟩ ∈ branchForms 0x80#8 ∧
    narrowState.flag .z = false ∧ { narrowState with p := 0x32#8 }.flag .z = true := by decide

/-- LongCallAndReturn, SixteenBitPushes, PullsOfSpecialRegisters at the last S of page 1 that their hypotheses admit. -/
theorem test_hyp_stack_limits :
    Memory.wf (emulationState 0x0102#16).mem = true ∧ 2 ≤ (loByte (emulationState 0x0102#16).s).toNat ∧
    1 ≤ (loByte (emulationState 0x0101#16).s).toNat ∧ (loByte (emulationState 0x01FC#16).s).toNat + 3 ≤ 255 ∧
    (loByte (emulationState 0x01FD#16).s).toNat + 2 ≤ 255 ∧ (loByte (emulationState 0x01FE#16).s).toNat + 1 ≤ 255 := by decide

/-- EmulationStackCornerRefused: the first S of page 1 on the other side. -/
theorem test_hyp_stack_corner :
    (emulationState 0x0100#16).e = true ∧ (loByte (emulationState 0x0100#16).s).toNat < 1 ∧
    (loByte (emulationState 0x0101#16).s).toNat < 2 ∧ 0xFF < (loByte (emulationState 0x01FF#16).s).toNat + 1 ∧
    0xFF < (loByte (emulationState 0x01FE#16).s).toNat + 2 ∧ 0xFF < (loByte (emulationState 0x01FD#16).s).toNat + 3 := by decide

/-- PullsUndoPushes: a push that wraps in page 1, and one that wraps in bank 0. -/
theorem test_hyp_pulls_undo_pushes :
    let s := emulationState 0x0100#16
    let n := { nativeState with s := 0x0000#16 }
    hiByte s.s = 0x01#8 ∧ Memory.wf s.mem = true ∧ kindAt s.cfg (b0 s.s) = .ram ∧ kindAt s.cfg (b0 (s.stackBelow 1)) = .ram ∧
    n.e = false ∧ kindAt n.cfg (b0 n.s) = .ram ∧ kindAt n.cfg (b0 (n.stackBelow 1)) = .ram := by decide

/-- ReturnRestoresWhatBreakSaved. -/
theorem test_hyp_break_and_return :
    nativeState.Inv ∧ nativeState.e = false ∧ ∀ n ≤ 3, kindAt nativeState.cfg (b0 (nativeState.stackBelow n)) = .ram :=
  ⟨test_hyp_native_inv.2, rfl, by decide⟩

/-- IrqTaken, for a running and for a waiting processor. -/
theorem test_hyp_irq :
    let s := { nativeState with inputs := [{ irq := true, nmi := false, reset := false }] }
    let w := { s with run := .waiting }
    Memory.wf s.mem = true ∧ s.run ≠ .stopped ∧ s.levels.reset = false ∧ s.nmiSeen = false ∧ s.levels.irq = true ∧ s.flag .i = false ∧
    w.run ≠ .stopped ∧ w.levels.irq = true ∧ w.flag .i = false := by decide

/-- NmiTaken: by the latch, and by an edge at this step. -/
theorem test_hyp_nmi :
    let l := { nativeState with nmiPending := true }
    let d := { nativeState with inputs := [{ irq := true, nmi := true, reset := false }] }
    Memory.wf l.mem = true ∧ l.run ≠ .stopped ∧ l.levels.reset = false ∧ l.nmiSeen = true ∧ d.levels.reset = false ∧ d.nmiSeen = true := by
  decide

/-- ResetSequence, for a stopped 65816 and for a 6502. -/
theorem test_hyp_reset :
    { nativeState with run := .stopped, resetLine := true }.levels.reset = true ∧
    { narrowState with inputs := [{ irq := true, nmi := true, reset := true }] }.levels.reset = true ∧
    narrowState.cfg.variant = .m6502 ∧ nativeState.cfg.variant ≠ .m6502 := by decide

/-- WaitingAndStoppedStay. -/
theorem test_hyp_stay :
    let w := { nativeState with run := .waiting }
    let p := { nativeState with run := .stopped, nmiPending := true }
    w.levels.reset = false ∧ w.nmiSeen = false ∧ w.levels.irq = false ∧ p.levels.reset = false ∧ p.run = .stopped := by decide

/-- StepRunsTheInstructionAtPc, for a running processor and for a wait that a masked IRQ ends. -/
theorem test_hyp_starts :
    nativeState.startsInstruction ∧
    ({ nativeState with run := .waiting, irqLine := true, p := 0x04#8 } : State).startsInstruction :=
  ⟨⟨rfl, rfl, .inl ⟨rfl, .inl rfl⟩⟩, rfl, rfl, .inr ⟨rfl, rfl, rfl⟩⟩

theorem test_hyp_bytes_at_pc :
    Instr.nop.wellFormed nativeState.cfg.variant nativeState.wA nativeState.wX = true ∧
    ∀ k < (encode nativeState.wA nativeState.wX .nop).length,
      ({ nativeState.withInputs false with run := .running } : State).read .fetch
        (bankAddr nativeState.pbr (nativeState.pc + BitVec.ofNat 16 k)) =
        (encode nativeState.wA nativeState.wX .nop).getD k 0x00#8 := by decide

/-- UnavailableOpcodeRefused: opcode 3A on a 6502. -/
theorem test_hyp_unavailable :
    let s := { narrowState with mem := [(0x1000, 0x3A#8)] }
    s.levels.reset = false ∧ s.nmiSeen = false ∧ s.run = .running ∧ s.levels.irq = false ∧
    (s.withInputs false).read .fetch (bankAddr s.pbr s.pc) = 0x3A#8 ∧ opcodeAvailable s.cfg.variant 0x3A#8 = false := by decide

/-- StepKeepsTheInvariant: a step from a state with the invariant. -/
theorem test_hyp_step : nativeState.Inv ∧ stepGives nativeState (fun t => t.pc == 0x1001#16) = true :=
  ⟨test_hyp_native_inv.2, by decide⟩

/-- InstructionsCompleteButForTwoCorners: a platform with no sensitive device, and both refusals. -/
theorem test_hyp_completes :
    nativeState.e = false ∧ nativeState.noSensitiveDevice ∧
    exec .plb (emulationState 0x01FF#16) = .refused .emulationStackWrap ∧
    exec (.incAbs 0x4000#16) deviceState = .refused .deviceRMW := by
  refine ⟨rfl, ?_, rfl, rfl⟩
  intro r h
  cases h

/-- RegistersChangeOnlyByTheirWriters, FlagsAndMemoryChangeOnlyByTheirWriters, NarrowVariantsStayIn64K. -/
theorem test_hyp_executes :
    exec .nop narrowState = .next (narrowState.advance 1) ∧ narrowState.cfg.variant ≠ .m65816 ∧
    Instr.nop.availableOn narrowState.cfg.variant = true ∧ 65536 ≤ (0x010000#24).toNat := ⟨rfl, by decide, by decide, by decide⟩

/-- BlockMoveCompletes needs C as it is: from C = 1, two bytes move. -/
theorem test_block_move_of_two :
    outcomeGives (execTimes (.mvn 0x7E#8 0x00#8) 2 { nativeState with c := 0x0001#16, x := 0x1000#16, y := 0x2000#16 })
      (fun t => t.c == 0xFFFF#16 && t.x == 0x1002#16 && t.y == 0x2002#16 && t.dbr == 0x7E#8 && t.pc == 0x1003#16 &&
        Memory.read t.mem 0x7E2000 == 0xEA#8) = true := by decide

/-- State.reset's PC is the vector of a memory with nothing listed (R47). -/
theorem test_reset_pc : State.reset.pc = State.reset.readVector 0xFFFC#16 := by decide

/-- The table's word placed where the step fetches is what the next step runs. -/
theorem test_with_fetch_word :
    stepGives (State.reset.withFetchWord 16 0x5AA9) (fun t => t.c == 0x005A#16 && t.pc == 0x0002#16) = true := by decide

end Sys2Proof.Tests
end

section
/-! SUPPORT. What the decoder and the fetch do with the bytes of one instruction, and the scope statements settled with it:
which opcodes a variant has, and that a step runs the instruction whose bytes lie at PC. -/

namespace Sys2Proof

/-! ## Availability (R97, R102) -/

@[simp] theorem opcodeAvailable_m65816 (op : Byte) : opcodeAvailable .m65816 op = true := rfl

/-- The 6502 has the opcodes of the 65C02 but for the 27 that the 65C02 added. -/
theorem opcodeAvailable_m6502 (op : Byte) :
    opcodeAvailable .m6502 op = (opcodeAvailable .m65C02 op && !added65C02.contains op.toNat) := rfl

theorem opcodeAvailable_m65C02_of_m6502 {op : Byte} (h : opcodeAvailable .m6502 op = true) :
    opcodeAvailable .m65C02 op = true := by
  rw [opcodeAvailable_m6502, Bool.and_eq_true] at h
  exact h.1

/-- The two statements of R97, by opcode byte and by instruction, agree on every row of R100. -/
theorem rowHolds_opcode_introducedOn (i : Instr) :
    Laws.Availability.rowHolds i.opcode i.introducedOn = true := by
  cases i <;> dsimp only [Instr.opcode, Instr.introducedOn] <;> decide

theorem opcodeAvailable_opcode (v : Variant) (i : Instr) : opcodeAvailable v i.opcode = i.availableOn v :=
  Laws.Availability.of_row i.opcode i.introducedOn rfl rfl (rowHolds_opcode_introducedOn i) v

/-! ## An instruction's bytes (R93, R95) -/

/-- Only the length of an immediate depends on a width. -/
theorem encode_length (wm wx : Width) (i : Instr) : (encode wm wx i).length = instrLength wm wx i.opcode := by
  cases i
  all_goals dsimp only [encode, Instr.opcode, Instr.operandBytes]
  case oraImm v | andImm v | eorImm v | adcImm v | bitImm v | ldaImm v | cmpImm v | sbcImm v =>
    cases wm <;> rfl
  case ldyImm v | ldxImm v | cpyImm v | cpxImm v =>
    cases wx <;> rfl
  all_goals rfl

/-- The opcode selects the row of R100, so what is left is that the row's operand is read back from its bytes: an immediate, a
word or a 24-bit address, by the law of that layout; single bytes and no operand as they stand. -/
theorem decodeInstr_operandBytes (wm wx : Width) (i : Instr) (h : i.immFits wm wx = true) (rest : List Byte) :
    decodeInstr wm wx
      { op := i.opcode
        b1 := (i.operandBytes wm wx ++ rest).getD 0 0x00#8
        b2 := (i.operandBytes wm wx ++ rest).getD 1 0x00#8
        b3 := (i.operandBytes wm wx ++ rest).getD 2 0x00#8 } = i := by
  cases i
  all_goals dsimp only [decodeInstr, Instr.opcode, Instr.operandBytes]
  case oraImm v | andImm v | eorImm v | adcImm v | bitImm v | ldaImm v | cmpImm v | sbcImm v =>
    conv_rhs => rw [← immOperand_encodeImm wm v h rest]
    rfl
  case ldyImm v | ldxImm v | cpyImm v | cpxImm v =>
    conv_rhs => rw [← immOperand_encodeImm wx v h rest]
    rfl
  case tsbAbs v | oraAbs v | aslAbs v | oraAbsY v | trbAbs v | oraAbsX v | aslAbsX v | jsrAbs v | bitAbs v | andAbs v
  | rolAbs v | andAbsY v | bitAbsX v | andAbsX v | rolAbsX v | jmpAbs v | eorAbs v | lsrAbs v | eorAbsY v
  | eorAbsX v | lsrAbsX v | per v | jmpInd v | adcAbs v | rorAbs v | adcAbsY v | jmpXInd v | adcAbsX v | rorAbsX v
  | brl v | styAbs v | staAbs v | stxAbs v | staAbsY v | stzAbs v | staAbsX v | stzAbsX v | ldyAbs v | ldaAbs v
  | ldxAbs v | ldaAbsY v | ldyAbsX v | ldaAbsX v | ldxAbsY v | cpyAbs v | cmpAbs v | decAbs v | cmpAbsY v
  | jmpIndLong v | cmpAbsX v | decAbsX v | cpxAbs v | sbcAbs v | incAbs v | pea v | sbcAbsY v | jsrXInd v
  | sbcAbsX v | incAbsX v =>
    conv_rhs => rw [← op16_opLo_opHi v]
    rfl
  case oraLong a | oraLongX a | jsl a | andLong a | andLongX a | eorLong a | jmpLong a | eorLongX a | adcLong a
  | adcLongX a | staLong a | staLongX a | ldaLong a | ldaLongX a | cmpLong a | cmpLongX a | sbcLong a | sbcLongX a =>
    conv_rhs => rw [← op24_extract a]
    rfl
  all_goals rfl

end Sys2Proof

namespace Sys2Proof.Machine

/-! ## Fetching an instruction (R92) -/

/-- The bytes from PBR:PC on, the offset wrapping in the bank, are those listed. -/
def State.BytesAtPc (s : State) (bytes : List Byte) : Prop :=
  ∀ k < bytes.length, s.fetch8 k = bytes.getD k 0x00#8

/-- Past the bytes listed both sides are 0, so every byte of the window is known. -/
theorem State.BytesAtPc.fetchBelow {s : State} {bytes : List Byte} (h : s.BytesAtPc bytes) (k : Nat) :
    s.fetchBelow bytes.length k = bytes.getD k 0x00#8 := by
  unfold State.fetchBelow
  split
  case isTrue hk => exact h k hk
  case isFalse hk => exact (List.getD_eq_default _ _ (Nat.le_of_not_lt hk)).symm

theorem State.BytesAtPc.fetchWindow {s : State} {i : Instr} (h : s.BytesAtPc (encode s.wA s.wX i)) :
    s.fetchWindow =
      { op := i.opcode
        b1 := (i.operandBytes s.wA s.wX).getD 0 0x00#8
        b2 := (i.operandBytes s.wA s.wX).getD 1 0x00#8
        b3 := (i.operandBytes s.wA s.wX).getD 2 0x00#8 } := by
  have hop : s.fetch8 0 = i.opcode := h 0 (Nat.zero_lt_succ _)
  simp only [State.fetchWindow, hop, ← encode_length, h.fetchBelow]
  rfl

theorem State.BytesAtPc.decodeNext {s : State} {i : Instr} (h : s.BytesAtPc (encode s.wA s.wX i))
    (hwf : i.wellFormed s.cfg.variant s.wA s.wX = true) : s.decodeNext = .ok i := by
  obtain ⟨havail, hfits⟩ := Bool.and_eq_true_iff.mp hwf
  have hdec := decodeInstr_operandBytes s.wA s.wX i hfits []
  rw [List.append_nil] at hdec
  rw [State.decodeNext, h.fetchWindow, decodeWindow, opcodeAvailable_opcode, if_pos havail, hdec]

theorem runInstruction_of_decodeNext {s : State} {i : Instr} (h : s.decodeNext = .ok i) :
    runInstruction s = exec i s := by
  rw [runInstruction, h]

end Sys2Proof.Machine

/-! ## The scope statements -/

namespace Sys2Proof.Scope

open Sys2Proof Sys2Proof.Machine

/-- Settles O4: the 65816 has every opcode and the inclusion holds by how availability is defined; the two counts below 256 are
finite counts over the table. -/
theorem availableOpcodeCounts : Obligations.AvailableOpcodeCounts := by
  refine ⟨?count6502, ?count65C02, ?count65816, ?inclusion⟩
  case count6502 => rfl
  case count65C02 => rfl
  case count65816 => simp
  case inclusion => exact fun _ _ h => opcodeAvailable_m65C02_of_m6502 h

/-- Settles O52: the step is that of an instruction start, and what it fetches decodes to the instruction. Sampling the inputs
changes neither the variant nor the widths. -/
theorem stepRunsTheInstructionAtPc : Obligations.StepRunsTheInstructionAtPc := by
  intro s i hstart u hwf hbytes
  have hat : u.BytesAtPc (encode u.wA u.wX i) := hbytes
  rw [step_of_startsInstruction hstart]
  exact runInstruction_of_decodeNext (hat.decodeNext hwf)

end Sys2Proof.Scope
end

section
/-! SUPPORT. The bounds of what each instruction may change, the invariant of R39 included, from one case split over the
instructions; the flag instructions and 16-bit transfers; and the statements of 10_state.md settled with them. -/

namespace Sys2Proof.Machine

/-! ## Shared meanings: memory and P -/

variable {s t u : State} {i : Instr} {o : Operand}

/-- An access that only reads leaves the memory of the state it was given. -/
theorem accessOnce_mem {w : Width} (h : accessOnce o w s u = .next t) (hu : u.mem = s.mem) : t.mem = s.mem :=
  accessOnce_next h ▸ hu

theorem adc_mem (h : adc o s = .next t) : t.mem = s.mem := accessOnce_mem h (by simp)

theorem sbc_mem (h : sbc o s = .next t) : t.mem = s.mem := accessOnce_mem h (by simp)

theorem and1_mem (h : and1 o s = .next t) : t.mem = s.mem := accessOnce_mem h (by simp)

theorem eor_mem (h : eor o s = .next t) : t.mem = s.mem := accessOnce_mem h (by simp)

theorem ora_mem (h : ora o s = .next t) : t.mem = s.mem := accessOnce_mem h (by simp)

theorem bitMemory_mem (h : bitMemory o s = .next t) : t.mem = s.mem := accessOnce_mem h (by simp)

theorem cmp_mem (h : cmp o s = .next t) : t.mem = s.mem := accessOnce_mem h (by simp)

theorem lda_mem (h : lda o s = .next t) : t.mem = s.mem := accessOnce_mem h (by simp)

theorem ldIndex_mem {r : IndexReg} (h : ldIndex r o s = .next t) : t.mem = s.mem := accessOnce_mem h (by simp)

/-- A read-modify-write instruction on the accumulator stores nothing. -/
theorem rmw_acc_mem {res : Width → Word → Word} {flags : State → Width → Word → State}
    (h : rmw .acc res flags s = .next t) (hf : ∀ u w v, (flags u w v).mem = u.mem) : t.mem = s.mem := by
  cases h; exact hf _ _ _

theorem shift_acc_mem {f : Width → Word → ShiftOut} (h : shift f .acc s = .next t) : t.mem = s.mem :=
  rmw_acc_mem h fun _ _ _ => rfl

theorem asl_acc_mem (h : asl .acc s = .next t) : t.mem = s.mem := shift_acc_mem h

theorem lsr_acc_mem (h : lsr .acc s = .next t) : t.mem = s.mem := shift_acc_mem h

theorem rol_acc_mem (h : rol .acc s = .next t) : t.mem = s.mem := shift_acc_mem h

theorem ror_acc_mem (h : ror .acc s = .next t) : t.mem = s.mem := shift_acc_mem h

theorem inc_acc_mem (h : inc .acc s = .next t) : t.mem = s.mem := rmw_acc_mem h fun _ _ _ => rfl

theorem dec1_acc_mem (h : dec1 .acc s = .next t) : t.mem = s.mem := rmw_acc_mem h fun _ _ _ => rfl

theorem store_p {w : Width} {v : Word} (h : store o w v s = .next t) : t.p = s.p := by
  cases accessOnce_next h
  rw [State.advance_p, State.writeData_eq]

theorem sta_p (h : sta o s = .next t) : t.p = s.p := store_p h

theorem stIndex_p {r : IndexReg} (h : stIndex r o s = .next t) : t.p = s.p := store_p h

theorem stz_p (h : stz o s = .next t) : t.p = s.p := store_p h

theorem branch_p {c : Bool} {disp : Byte} (h : branch c disp s = .next t) : t.p = s.p := by
  cases c <;> cases h <;> rfl

theorem branch_mem {c : Bool} {disp : Byte} (h : branch c disp s = .next t) : t.mem = s.mem := by
  cases c <;> cases h <;> rfl

/-! ## Registers that the 8-bit variants fix -/

theorem variant_of_availableOn {v : Variant} (hi : i.introducedOn = .m65816) (h : i.availableOn v = true) :
    v = .m65816 := by
  rw [Instr.availableOn, hi, decide_eq_true_eq] at h
  cases v
  case m65816 => rfl
  all_goals exact absurd h (by decide)

/-- The invariant leaves D, DBR, PBR and the run state of a 65816 free. -/
theorem State.Inv.of_wide (hi : s.Inv) (hv : s.cfg.variant = .m65816) (d : Word) (dbr pbr : Byte) (run : RunState) :
    ({ s with d := d, dbr := dbr, pbr := pbr, run := run } : State).Inv :=
  ⟨fun h => absurd hv h, hi.fixedBits, hi.stackPage, hi.narrowIndex, hi.memWf⟩

/-! ## Pulls -/

theorem State.stackOnly_pullW (s : State) (w : Width) : s.StackOnly (s.pullW w).2 := by
  cases w
  case w8 => exact (State.StackOnly.refl s).setS _
  case w16 => exact ((State.StackOnly.refl s).setS _).setS _

theorem State.pullW_mem (s : State) (w : Width) : (s.pullW w).2.mem = s.mem := by rw [s.pullW_eq]

/-! ## The bounds of an instruction's effect -/

/-- What no instruction writes: the configuration, the inputs, the step number (R8, R45, R321). -/
def State.surroundings (s : State) : Config × Bool × Bool × Bool × Bool × List Inputs × Nat :=
  (s.cfg, s.irqLine, s.nmiLine, s.nmiPending, s.resetLine, s.inputs, s.time)

theorem State.surroundings_eq_iff : t.surroundings = s.surroundings ↔
    t.cfg = s.cfg ∧ t.irqLine = s.irqLine ∧ t.nmiLine = s.nmiLine ∧ t.nmiPending = s.nmiPending ∧
      t.resetLine = s.resetLine ∧ t.inputs = s.inputs ∧ t.time = s.time := by
  simp only [State.surroundings, Prod.mk.injEq]

/-- From `s` to `t` nothing changed that `i` does not write (R35, R41, R63), and where the variant has `i` the invariant is
kept (R39). -/
structure WithinBounds (i : Instr) (s t : State) : Prop where
  surroundings : t.surroundings = s.surroundings
  e : i.writesE = false → t.e = s.e
  d : i.writesD = false → t.d = s.d
  dbr : i.writesDbr = false → t.dbr = s.dbr
  pbr : i.writesPbr = false → t.pbr = s.pbr
  sp : i.writesS = false → t.s = s.s
  run : i.writesRun = false → t.run = s.run
  p : i.writesNoFlag = true → t.p = s.p
  mem : i.mayStore = false → t.mem = s.mem
  inv : i.availableOn s.cfg.variant = true → s.Inv → t.Inv

/-- Pushes or pulls first, then the effect of a data instruction. -/
theorem WithinBounds.of_stackOnly_data (hu : s.StackOnly u) (ht : u.Data t) (hs : i.writesS = false → u.s = s.s)
    (hp : i.writesNoFlag = true → t.p = u.p) (hm : i.mayStore = false → t.mem = s.mem) : WithinBounds i s t where
  surroundings := by rw [ht.rest, hu.rest]; rfl
  e _ := by rw [ht.rest, hu.rest]
  d _ := by rw [ht.rest, hu.rest]
  dbr _ := by rw [ht.rest, hu.rest]
  pbr _ := by rw [ht.rest, hu.rest]
  sp h := by rw [ht.rest]; exact hs h
  run _ := by rw [ht.rest, hu.rest]
  p h := by rw [hp h, hu.rest]
  mem := hm
  inv _ hi := ht.inv (hu.inv hi)

theorem WithinBounds.of_data (h : s.Data t) (hp : i.writesNoFlag = true → t.p = s.p)
    (hm : i.mayStore = false → t.mem = s.mem) : WithinBounds i s t :=
  .of_stackOnly_data (.refl s) h (fun _ => rfl) hp hm

theorem WithinBounds.of_stackOnly (h : s.StackOnly t) (hs : i.writesS = true) (hm : i.mayStore = false → t.mem = s.mem) :
    WithinBounds i s t :=
  .of_stackOnly_data h (.refl t) (fun k => nomatch hs.symm.trans k) (fun _ => rfl) hm

/-- What an instruction of the 65816 alone can do: pushes or pulls, then D, DBR, PBR and the run state written, then the effect
of a data instruction. -/
theorem WithinBounds.of_wide {d : Word} {dbr pbr : Byte} {run : RunState} (hi : i.introducedOn = .m65816)
    (hu : s.StackOnly u) (ht : ({ u with d := d, dbr := dbr, pbr := pbr, run := run } : State).Data t)
    (hd : i.writesD = false → d = u.d) (hdbr : i.writesDbr = false → dbr = u.dbr)
    (hpbr : i.writesPbr = false → pbr = u.pbr) (hrun : i.writesRun = false → run = u.run)
    (hs : i.writesS = false → u.s = s.s) (hp : i.writesNoFlag = true → t.p = u.p)
    (hm : i.mayStore = false → t.mem = s.mem) : WithinBounds i s t where
  surroundings := by rw [ht.rest, hu.rest]; rfl
  e _ := by rw [ht.rest, hu.rest]
  d h := by rw [ht.rest, hd h, hu.rest]
  dbr h := by rw [ht.rest, hdbr h, hu.rest]
  pbr h := by rw [ht.rest, hpbr h, hu.rest]
  sp h := by rw [ht.rest]; exact hs h
  run h := by rw [ht.rest, hrun h, hu.rest]
  p h := by rw [hp h, hu.rest]
  mem := hm
  inv ha hinv := by
    have hv : u.cfg.variant = .m65816 := by rw [hu.rest]; exact variant_of_availableOn hi ha
    exact ht.inv ((hu.inv hinv).of_wide hv d dbr pbr run)

theorem WithinBounds.of_jumpLong {b : Byte} {a : Word} (hi : i.introducedOn = .m65816) (hu : s.StackOnly u)
    (hpbr : i.writesPbr = true) (hs : i.writesS = false → u.s = s.s) (hm : i.mayStore = false → u.mem = s.mem) :
    WithinBounds i s (u.jumpLong b a) :=
  .of_wide hi hu ((State.Data.refl { u with pbr := b }).jump a) (fun _ => rfl) (fun _ => rfl)
    (fun k => nomatch k.symm.trans hpbr) (fun _ => rfl) hs (fun _ => rfl) hm

/-- A new P after pushes or pulls (R40). -/
theorem WithinBounds.of_setP {v : Byte} {n : Nat} (hu : s.StackOnly u) (hp : i.writesNoFlag = false)
    (hs : i.writesS = false → u.s = s.s) (hm : i.mayStore = false → u.mem = s.mem) :
    WithinBounds i s ((u.setP v).advance n) where
  surroundings := by rw [hu.rest]; rfl
  e _ := by rw [State.advance_e, State.setP_e, hu.rest]
  d _ := by rw [State.advance_d, State.setP_d, hu.rest]
  dbr _ := by rw [State.advance_dbr, State.setP_dbr, hu.rest]
  pbr _ := by rw [State.advance_pbr, State.setP_pbr, hu.rest]
  sp := hs
  run _ := by rw [State.advance_run, State.setP_run, hu.rest]
  p h := nomatch h.symm.trans hp
  mem := hm
  inv _ hi := ((State.Data.refl _).advance n).inv ((hu.inv hi).setP v)

theorem WithinBounds.of_enterInterrupt {k : Cause} {ret : Word} (hpbr : i.writesPbr = true) (hs : i.writesS = true)
    (hp : i.writesNoFlag = false) (hm : i.mayStore = true) : WithinBounds i s (s.enterInterrupt k ret) where
  surroundings := by rw [s.enterInterrupt_eq]; rfl
  e _ := by rw [s.enterInterrupt_eq]
  d _ := by rw [s.enterInterrupt_eq]
  dbr _ := by rw [s.enterInterrupt_eq]
  pbr h := nomatch h.symm.trans hpbr
  sp h := nomatch h.symm.trans hs
  run _ := by rw [s.enterInterrupt_eq]
  p h := nomatch h.symm.trans hp
  mem h := nomatch h.symm.trans hm
  inv _ hi := hi.enterInterrupt k ret

theorem withinBounds_rti : WithinBounds .rti s s.returnFromInterrupt where
  surroundings := by rw [s.returnFromInterrupt_eq]; rfl
  e _ := by rw [s.returnFromInterrupt_eq]
  d _ := by rw [s.returnFromInterrupt_eq]
  dbr _ := by rw [s.returnFromInterrupt_eq]
  pbr := nofun
  sp := nofun
  run _ := by rw [s.returnFromInterrupt_eq]
  p := nofun
  mem _ := by rw [s.returnFromInterrupt_eq]
  inv _ hi := hi.returnFromInterrupt

theorem State.wX_congr (hc : t.cfg = s.cfg) (he : t.e = s.e) (hx : t.flag .x = s.flag .x) : t.wX = s.wX := by
  unfold State.wX
  rw [hc, he, hx]

theorem State.wX_setFlag (s : State) {f : Flag} (b : Bool) (hf : f ≠ .x) : (s.setFlag f b).wX = s.wX :=
  State.wX_congr rfl rfl ((s.flag_setFlag f .x b).trans (if_neg hf.symm))

/-- XCE keeps the invariant: into emulation mode it forces what I2 to I4 ask for; out of it the index registers were 8 bits
wide before; with c = e = 0 no width changes. -/
theorem State.Inv.exchangeCE (hi : s.Inv) (hv : s.cfg.variant = .m65816) : s.exchangeCE.Inv := by
  rw [s.exchangeCE_eq]
  cases hc : s.flag .c
  case true =>
    exact ⟨fun h => absurd hv h, fun _ => by simp, fun _ => hiByte_word _ _,
      fun _ => ⟨hiByte_narrow_w8 _, hiByte_narrow_w8 _⟩, hi.memWf⟩
  case false =>
    cases he : s.e
    case true =>
      have hw : s.wX = .w8 := by simp [State.wX, he]
      exact ⟨fun h => absurd hv h, nofun, nofun, fun _ => hi.narrowIndex hw, hi.memWf⟩
    case false =>
      refine ⟨fun h => absurd hv h, nofun, nofun, fun hw => hi.narrowIndex ?_, hi.memWf⟩
      rw [← hw, ← s.wX_setFlag false (show Flag.c ≠ .x by decide)]
      exact State.wX_congr rfl he (State.flag_of_p rfl .x)

theorem withinBounds_xce {n : Nat} : WithinBounds .xce s (s.exchangeCE.advance n) where
  surroundings := by rw [s.exchangeCE_eq]; rfl
  e := nofun
  d _ := by rw [State.advance_d, s.exchangeCE_eq]
  dbr _ := by rw [State.advance_dbr, s.exchangeCE_eq]
  pbr _ := by rw [State.advance_pbr, s.exchangeCE_eq]
  sp := nofun
  run _ := by rw [State.advance_run, s.exchangeCE_eq]
  p := nofun
  mem _ := by rw [State.advance_mem, s.exchangeCE_eq]
  inv ha hi := ((State.Data.refl _).advance n).inv (hi.exchangeCE (variant_of_availableOn rfl ha))

/-- A block move step writes DBR; the rest of it is the effect of a data instruction. -/
theorem blockMove_data {f : Width → Word → Word} (hf : ∀ v, hiByte (f .w8 v) = 0x00#8) {dst src : Byte}
    (h : blockMove f dst src s = .next t) : ({ s with dbr := dst } : State).Data t := by
  rw [blockMove_eq] at h
  cases h
  exact ⟨rfl, rfl, rfl, fun hw _ => hw ▸ hf _, fun hw _ => hw ▸ hf _, State.wf_write s _ _⟩

theorem blockMove_p {f : Width → Word → Word} {dst src : Byte} (h : blockMove f dst src s = .next t) : t.p = s.p := by
  rw [blockMove_eq] at h
  cases h; rfl

theorem pullIndex_withinBounds {r : IndexReg} (hs : i.writesS = true) (hp : i.writesNoFlag = false)
    (h : pullIndex r s = .next t) : WithinBounds i s t := by
  cases h
  have hw : (s.pullW s.wX).2.wX = s.wX := by rw [s.pullW_eq]; rfl
  have pulled := (State.Data.refl (s.pullW s.wX).2).setIdx r (s.pullW s.wX).1
  rw [hw] at pulled
  exact .of_stackOnly_data (s.stackOnly_pullW _) ((pulled.setNZ _ _).advance _)
    (fun k => nomatch k.symm.trans hs) (fun k => nomatch k.symm.trans hp)
    fun _ => s.pullW_mem _

theorem blockMove_withinBounds {f : Width → Word → Word} {dst src : Byte} (h : blockMove f dst src s = .next t)
    (hf : ∀ v, hiByte (f .w8 v) = 0x00#8) (hi : i.introducedOn = .m65816) (hd : i.writesDbr = true)
    (hm : i.mayStore = true) : WithinBounds i s t :=
  .of_wide hi (.refl s) (blockMove_data hf h) (fun _ => rfl) (fun k => nomatch k.symm.trans hd)
    (fun _ => rfl) (fun _ => rfl) (fun _ => rfl) (fun _ => blockMove_p h) fun k => nomatch k.symm.trans hm

/-- An instruction that completes was not refused. -/
theorem of_if_next {b : Bool} {r : Refusal} {out : Out} (h : (if b = true then .refused r else out) = .next t) :
    out = .next t := by
  cases b
  case true => cases h
  case false => exact h

/-- Every instruction keeps within its bounds: one case per instruction, grouped by shared meaning. -/
theorem exec_withinBounds (h : exec i s = .next t) : WithinBounds i s t := by
  have stack := State.StackOnly.refl s
  cases i
  all_goals dsimp only [exec] at h
  case adcDpXInd | adcSr | adcDp | adcDpIndLong | adcImm | adcAbs | adcLong | adcDpIndY | adcDpInd | adcSrIndY
    | adcDpX | adcDpIndLongY | adcAbsY | adcAbsX | adcLongX =>
    exact .of_data (adc_data h) nofun fun _ => adc_mem h
  case sbcDpXInd | sbcSr | sbcDp | sbcDpIndLong | sbcImm | sbcAbs | sbcLong | sbcDpIndY | sbcDpInd | sbcSrIndY
    | sbcDpX | sbcDpIndLongY | sbcAbsY | sbcAbsX | sbcLongX =>
    exact .of_data (sbc_data h) nofun fun _ => sbc_mem h
  case andDpXInd | andSr | andDp | andDpIndLong | andImm | andAbs | andLong | andDpIndY | andDpInd | andSrIndY
    | andDpX | andDpIndLongY | andAbsY | andAbsX | andLongX =>
    exact .of_data (and1_data h) nofun fun _ => and1_mem h
  case eorDpXInd | eorSr | eorDp | eorDpIndLong | eorImm | eorAbs | eorLong | eorDpIndY | eorDpInd | eorSrIndY
    | eorDpX | eorDpIndLongY | eorAbsY | eorAbsX | eorLongX =>
    exact .of_data (eor_data h) nofun fun _ => eor_mem h
  case oraDpXInd | oraSr | oraDp | oraDpIndLong | oraImm | oraAbs | oraLong | oraDpIndY | oraDpInd | oraSrIndY
    | oraDpX | oraDpIndLongY | oraAbsY | oraAbsX | oraLongX =>
    exact .of_data (ora_data h) nofun fun _ => ora_mem h
  case bitDp | bitAbs | bitDpX | bitAbsX =>
    exact .of_data (bitMemory_data h) nofun fun _ => bitMemory_mem h
  case cmpDpXInd | cmpSr | cmpDp | cmpDpIndLong | cmpImm | cmpAbs | cmpLong | cmpDpIndY | cmpDpInd | cmpSrIndY
    | cmpDpX | cmpDpIndLongY | cmpAbsY | cmpAbsX | cmpLongX =>
    exact .of_data (cmp_data h) nofun fun _ => cmp_mem h
  case ldaDpXInd | ldaSr | ldaDp | ldaDpIndLong | ldaImm | ldaAbs | ldaLong | ldaDpIndY | ldaDpInd | ldaSrIndY
    | ldaDpX | ldaDpIndLongY | ldaAbsY | ldaAbsX | ldaLongX =>
    exact .of_data (lda_data h) nofun fun _ => lda_mem h
  case ldyImm | ldxImm | ldyDp | ldxDp | ldyAbs | ldxAbs | ldyDpX | ldxDpY | ldyAbsX | ldxAbsY =>
    exact .of_data (ldIndex_data h) nofun fun _ => ldIndex_mem h
  case cpyImm | cpyDp | cpyAbs | cpxImm | cpxDp | cpxAbs =>
    exact .of_data (cmpIndex_data h) nofun fun _ => by cases h; simp
  case bitImm =>
    exact .of_data (bitImmediate_data h) nofun fun _ => by cases h; rfl
  case dey | iny | dex | inx =>
    exact .of_data (stepIndex_data h) nofun fun _ => by cases h; rfl
  case txy | tay | tax | tsx | tyx =>
    exact .of_data (toIndex_data h) nofun fun _ => by cases h; rfl
  case txa | tya =>
    exact .of_data (toAcc_data h) nofun fun _ => by cases h; rfl
  case tsc | tdc =>
    exact .of_data (toC_data h) nofun fun _ => by cases h; rfl
  case clc | sec | cli | sei | clv | cld | sed =>
    exact .of_data (writeFlag_data (by decide) (by decide) h) nofun fun _ => by cases h; rfl
  case aslA =>
    exact .of_data (asl_data h) nofun fun _ => asl_acc_mem h
  case aslDp | aslAbs | aslDpX | aslAbsX =>
    exact .of_data (asl_data h) nofun nofun
  case lsrA =>
    exact .of_data (lsr_data h) nofun fun _ => lsr_acc_mem h
  case lsrDp | lsrAbs | lsrDpX | lsrAbsX =>
    exact .of_data (lsr_data h) nofun nofun
  case rolA =>
    exact .of_data (rol_data h) nofun fun _ => rol_acc_mem h
  case rolDp | rolAbs | rolDpX | rolAbsX =>
    exact .of_data (rol_data h) nofun nofun
  case rorA =>
    exact .of_data (ror_data h) nofun fun _ => ror_acc_mem h
  case rorDp | rorAbs | rorDpX | rorAbsX =>
    exact .of_data (ror_data h) nofun nofun
  case incA =>
    exact .of_data (inc_data h) nofun fun _ => inc_acc_mem h
  case incDp | incAbs | incDpX | incAbsX =>
    exact .of_data (inc_data h) nofun nofun
  case decA =>
    exact .of_data (dec1_data h) nofun fun _ => dec1_acc_mem h
  case decDp | decAbs | decDpX | decAbsX =>
    exact .of_data (dec1_data h) nofun nofun
  case trbDp | trbAbs =>
    exact .of_data (trb_data h) nofun nofun
  case tsbDp | tsbAbs =>
    exact .of_data (tsb_data h) nofun nofun
  case staDpXInd | staSr | staDp | staDpIndLong | staAbs | staLong | staDpIndY | staDpInd | staSrIndY | staDpX
    | staDpIndLongY | staAbsY | staAbsX | staLongX =>
    exact .of_data (sta_data h) (fun _ => sta_p h) nofun
  case styDp | stxDp | styAbs | stxAbs | styDpX | stxDpY =>
    exact .of_data (stIndex_data h) (fun _ => stIndex_p h) nofun
  case stzDp | stzDpX | stzAbs | stzAbsX =>
    exact .of_data (stz_data h) (fun _ => stz_p h) nofun
  case bpl | bmi | bvc | bvs | bra | bcc | bcs | bne | beq =>
    exact .of_data (branch_data h) (fun _ => branch_p h) fun _ => branch_mem h
  case xba =>
    cases h; exact .of_data ((((State.Data.refl s).setAcc _ _).setNZ _ _).advance _) nofun fun _ => rfl
  case nop | wdm =>
    cases h; exact .of_data ((State.Data.refl s).advance _) (fun _ => rfl) fun _ => rfl
  case jmpAbs | jmpInd | brl =>
    cases h; exact .of_data ((State.Data.refl s).jump _) (fun _ => rfl) fun _ => rfl
  case jmpXInd =>
    cases of_if_next h
    exact .of_data ((State.Data.refl s).jump _) (fun _ => rfl) fun _ => rfl
  case pha | phx | phy =>
    exact .of_stackOnly (push_stackOnly h) rfl nofun
  case phb | phk | php =>
    exact .of_stackOnly (pushByte_stackOnly h) rfl nofun
  case phd | pea | pei | per =>
    exact .of_stackOnly (pushWord_stackOnly h) rfl nofun
  case tcs | txs =>
    cases h; exact .of_stackOnly ((stack.setS _).advance _) rfl fun _ => rfl
  case jsrAbs =>
    cases h; exact .of_stackOnly (s.stackOnly_jsrPushed.jump _) rfl nofun
  case jsrXInd =>
    cases of_if_next (of_if_next h)
    exact .of_stackOnly (s.stackOnly_jsrPushed.jump _) rfl nofun
  case rts =>
    cases h; exact .of_stackOnly (((stack.setS _).setS _).jump _) rfl fun _ => rfl
  case pla =>
    cases h
    exact .of_stackOnly_data (s.stackOnly_pullW _) ((((State.Data.refl _).setAcc _ _).setNZ _ _).advance _) nofun nofun
      fun _ => s.pullW_mem _
  case plx | ply =>
    exact pullIndex_withinBounds rfl rfl h
  case rep | sep =>
    cases h; exact .of_setP stack rfl (fun _ => rfl) fun _ => rfl
  case plp =>
    cases h; exact .of_setP (stack.setS _) rfl nofun fun _ => rfl
  case brk | cop =>
    cases h; exact .of_enterInterrupt rfl rfl rfl rfl
  case rti =>
    cases h; exact withinBounds_rti
  case xce =>
    cases h; exact withinBounds_xce
  case jmpLong | jmpIndLong =>
    cases h; exact .of_jumpLong rfl stack rfl (fun _ => rfl) fun _ => rfl
  case jsl =>
    cases of_if_next h; exact .of_jumpLong rfl s.stackOnly_jslPushed rfl nofun nofun
  case rtl =>
    cases of_if_next h; exact .of_jumpLong rfl (((stack.setS _).setS _).setS _) rfl nofun fun _ => rfl
  case tcd =>
    cases h
    exact .of_wide rfl stack (((State.Data.refl _).setNZ _ _).advance _) nofun (fun _ => rfl) (fun _ => rfl)
      (fun _ => rfl) (fun _ => rfl) nofun fun _ => rfl
  case pld =>
    cases of_if_next h
    exact .of_wide rfl ((stack.setS _).setS _) (((State.Data.refl _).setNZ _ _).advance _) nofun (fun _ => rfl)
      (fun _ => rfl) (fun _ => rfl) nofun nofun fun _ => rfl
  case plb =>
    cases of_if_next h
    exact .of_wide rfl (stack.setS _) (((State.Data.refl _).setNZ _ _).advance _) (fun _ => rfl) nofun
      (fun _ => rfl) (fun _ => rfl) nofun nofun fun _ => rfl
  case wai | stp =>
    cases h
    exact .of_wide rfl (stack.advance 1) (.refl _) (fun _ => rfl) (fun _ => rfl) (fun _ => rfl) nofun
      (fun _ => rfl) (fun _ => rfl) fun _ => rfl
  case mvn | mvp =>
    exact blockMove_withinBounds h (fun _ => hiByte_narrow_w8 _) rfl rfl rfl

/-! ## A step -/

/-- The opcode of what is decoded is the opcode fetched: the rows of R100, one case per opcode byte. -/
theorem opcode_decodeInstr (wm wx : Width) (win : Window) : (decodeInstr wm wx win).opcode = win.op := by
  apply BitVec.eq_of_toNat_eq
  have hop := win.op.isLt
  unfold decodeInstr
  generalize win.op.toNat = k at hop ⊢
  interval_cases k <;> rfl

/-- Only an instruction of the variant is decoded (R97, R106). -/
theorem availableOn_of_decodeNext (h : s.decodeNext = .ok i) : i.availableOn s.cfg.variant = true := by
  unfold State.decodeNext decodeWindow at h
  split at h
  case isFalse => cases h
  case isTrue ha =>
    cases h
    rw [← opcodeAvailable_opcode, opcode_decodeInstr]
    exact ha

theorem State.Inv.runInstruction (hi : s.Inv) (h : runInstruction s = .next t) : t.Inv := by
  unfold Machine.runInstruction at h
  cases hd : s.decodeNext with
  | ok i =>
    rw [hd] at h
    exact (exec_withinBounds h).inv (availableOn_of_decodeNext hd) hi
  | error _ => rw [hd] at h; cases h

theorem State.Inv.takeNmi (hi : s.Inv) : s.takeNmi.Inv :=
  State.Inv.enterInterrupt (s := { s with nmiPending := false, run := .running })
    ⟨hi.running.narrowVariant, hi.fixedBits, hi.stackPage, hi.narrowIndex, hi.memWf⟩ .nmi s.pc

theorem State.Inv.afterSampling (hi : s.Inv) (h : afterSampling s = .next t) : t.Inv := by
  unfold Machine.afterSampling at h
  generalize s.boundary = chosen at h
  cases chosen with
  | reset => cases h; exact hi.resetSequence
  | nmi => cases h; exact hi.takeNmi
  | irq => cases h; exact hi.running.enterInterrupt .irq s.pc
  | stay => cases h; exact hi
  | instr => exact hi.running.runInstruction h

/-! ## Flag instructions, REP, SEP, transfers -/

theorem writeFlag_writesFlags (s : State) (f : Flag) (b : Bool) :
    s.writesFlags [f] (fun t => t.flag f = b) 1 (writeFlag f b s) := by
  refine State.writesFlags_of_p (t := s.setFlag f b) rfl (fun g hg => ?_) ?_
  · rw [State.advance_flag, State.flag_setFlag, if_neg (List.mem_singleton.not.mp hg)]
  · rw [State.advance_flag, State.flag_setFlag, if_pos rfl]

/-- SetP writes the new P with bits 5 and 4 held at 1 in emulation mode, and cuts X and Y; nothing else (R40). -/
theorem State.setP_advance (s : State) (v : Byte) (n : Nat) :
    let t := (s.setP v).advance n
    t.p = (if s.e then v ||| 0x30#8 else v) ∧ t.x = lowBits t.wX s.x ∧ t.y = lowBits t.wX s.y ∧
      t.pc = s.pc + BitVec.ofNat 16 n ∧ s.keepsMemory t ∧
      { t with p := s.p, x := s.x, y := s.y, pc := s.pc, mem := s.mem } = s :=
  ⟨rfl, congrArg State.x (s.setP_eq v), congrArg State.y (s.setP_eq v), rfl, fun _ _ => rfl, rfl⟩

/-- S after TCS and TXS (R251, R256). -/
theorem State.setS_advance (s : State) (v : Word) (n : Nat) :
    let t := (s.setS v).advance n
    t.s = (if s.e then word 0x01#8 (loByte v) else v) ∧ t.pc = s.pc + BitVec.ofNat 16 n ∧ s.keepsMemory t ∧
      { t with s := s.s, pc := s.pc, mem := s.mem } = s :=
  ⟨rfl, rfl, fun _ _ => rfl, rfl⟩

/-- n and z as setNZ leaves them, the other flags kept. -/
theorem State.keepsFlagsBut_setNZ (s : State) (w : Width) (v : Word) : s.keepsFlagsBut (s.setNZ w v) [.n, .z] := by
  intro g hg
  simp only [List.mem_cons, List.not_mem_nil, or_false, not_or] at hg
  rw [State.flag_setNZ, if_neg hg.2, if_neg hg.1]

theorem State.nzFrom_setNZ (s : State) {w : Width} {v : Word} (hv : narrow w v = v) : (s.setNZ w v).nzFrom w v :=
  State.nzFrom_of_flags hv (by simp [State.flag_setNZ]) (by simp [State.flag_setNZ])

theorem getLsbD_zext (b : Byte) (k : Nat) : (zext b).getLsbD k = b.getLsbD k := by
  simp only [BitVec.getLsbD, zext_toNat]

theorem zext_eq_zero_iff (b : Byte) : zext b = 0x0000#16 ↔ b = 0x00#8 := by
  rw [← BitVec.toNat_inj, ← BitVec.toNat_inj, zext_toNat]
  rfl

/-- n and z of the low byte of a word. -/
theorem State.nz_setNZ_w8 (s : State) (v : Word) :
    (s.setNZ .w8 (narrow .w8 v)).flag .n = (loByte v).getLsbD 7 ∧
      (s.setNZ .w8 (narrow .w8 v)).flag .z = decide (loByte v = 0x00#8) := by
  obtain ⟨hn, hz⟩ := s.nzFrom_setNZ (narrow_narrow .w8 v)
  rw [hn, hz]
  simp only [narrow_w8, zext_eq_zero_iff]
  exact ⟨getLsbD_zext _ _, trivial⟩

end Sys2Proof.Machine

/-! ## The statements of 10_state.md -/

namespace Sys2Proof.StateRules

open Sys2Proof Sys2Proof.Machine

/-- Settles O55: sampling keeps the invariant, and so does whatever the acceptance test chooses: the reset sequence, an
interrupt sequence, an instruction the variant has, a stutter. -/
theorem stepKeepsTheInvariant : Obligations.StepKeepsTheInvariant :=
  fun _ _ hi h => hi.sampleInputs.afterSampling h

/-- Settles O57 by the bounds of each instruction's effect. -/
theorem registersChangeOnlyByTheirWriters : Obligations.RegistersChangeOnlyByTheirWriters := by
  intro i s t h
  have b := exec_withinBounds h
  obtain ⟨hcfg, hirq, -, hnmi, hreset, hinputs, -⟩ := State.surroundings_eq_iff.mp b.surroundings
  exact ⟨b.e, b.d, b.dbr, b.pbr, b.sp, b.run, hcfg, hirq, hnmi, hreset, hinputs⟩

/-- Settles O58 by the bounds of each instruction's effect: a read depends on the configuration, the step number and the memory
alone. -/
theorem flagsAndMemoryChangeOnlyByTheirWriters : Obligations.FlagsAndMemoryChangeOnlyByTheirWriters := by
  intro i s t h
  have b := exec_withinBounds h
  obtain ⟨hcfg, -, -, -, -, -, htime⟩ := State.surroundings_eq_iff.mp b.surroundings
  exact ⟨b.p, fun hm => State.keepsMemory_of_eq hcfg htime (b.mem hm)⟩

/-- Settles O7: each width function tests the variant, e and its flag, bit 5 or bit 4 of P. -/
theorem widthsFollowTheirFlags : Obligations.WidthsFollowTheirFlags := by
  intro s
  constructor
  case left => simp [State.wA, State.flag, Flag.bit]
  case right => simp [State.wX, State.flag, Flag.bit]

/-- Settles O6: the reset state is a literal; its PC is the word of an empty memory. -/
theorem resetStateHasTheSpecsValues : Obligations.ResetStateHasTheSpecsValues := by
  unfold Obligations.ResetStateHasTheSpecsValues
  decide

/-- Settles O54: the variant of the reset state is the 65816, e is 1, so I2 to I4 speak of its P, S, X and Y. -/
theorem resetMeetsTheInvariant : Obligations.ResetMeetsTheInvariant where
  narrowVariant h := absurd rfl h
  fixedBits _ := ⟨rfl, rfl⟩
  stackPage _ := rfl
  narrowIndex _ := ⟨rfl, rfl⟩
  memWf := State.wf_reset

/-- Settles O24: the seven flag instructions write one flag, REP and SEP are SetP. -/
theorem statusFlagInstructions : Obligations.StatusFlagInstructions := by
  intro s k effect
  refine ⟨fun f hf => ?_, ⟨rfl, rfl⟩, ⟨_, rfl, s.setP_advance _ 2⟩, ⟨rfl, rfl⟩, ⟨_, rfl, s.setP_advance _ 2⟩⟩
  have key : f.form.encoded ∧ exec f.form.instr = writeFlag f.flag f.value := by
    fin_cases hf <;> exact ⟨⟨rfl, rfl⟩, rfl⟩
  exact ⟨key.1, key.2 ▸ writeFlag_writesFlags s f.flag f.value⟩

/-- Settles O35: TDC and TSC load 16 bits, TCS and TXS are SetS; TCD and XBA write D and C with n and z. -/
theorem sixteenBitTransfers : Obligations.SixteenBitTransfers := by
  intro s toStack
  have xbaNZ := (s.setAcc .w16 (swapHalves s.c)).nz_setNZ_w8 (swapHalves s.c)
  rw [swapHalves, loByte_word] at xbaNZ
  refine ⟨⟨⟨rfl, rfl⟩, _, rfl, rfl, ?tcdFlags, ?tcdKept, rfl, fun _ _ => rfl, rfl⟩, ⟨rfl, rfl⟩,
    s.loadsAcc_setNZ .w16 s.d rfl 1, ⟨rfl, rfl⟩, s.loadsAcc_setNZ .w16 s.s rfl 1, ⟨rfl, rfl⟩,
    ⟨_, rfl, s.setS_advance s.c 1⟩, ⟨rfl, rfl⟩, ⟨_, rfl, s.setS_advance s.x 1⟩, ⟨rfl, rfl⟩, _, rfl, loByte_word _ _,
    hiByte_word _ _, ?xbaN, ?xbaZ, ?xbaKept, rfl, fun _ _ => rfl, rfl⟩
  case tcdFlags => exact State.nzFrom_setNZ _ rfl
  case tcdKept => exact State.keepsFlagsBut_setNZ { s with d := s.c } .w16 s.c
  case xbaN => exact xbaNZ.1
  case xbaZ => exact xbaNZ.2
  case xbaKept => exact State.keepsFlagsBut_setNZ (s.setAcc .w16 (swapHalves s.c)) .w8 _

/-- Settles O42 by the whole of the return from an interrupt. -/
theorem returnFromInterrupt : Obligations.ReturnFromInterrupt := by
  intro s
  have e := s.returnFromInterrupt_eq
  exact ⟨⟨rfl, rfl⟩, s.returnFromInterrupt, rfl, congrArg State.p e, congrArg State.x e, congrArg State.y e,
    congrArg State.pc e, congrArg State.pbr e, congrArg State.s e,
    State.keepsMemory_of_eq (by rw [e]) (by rw [e]) (by rw [e]), by rw [e]⟩

end Sys2Proof.StateRules
end

section
/-! SUPPORT. What an increment, shift or test of bits writes back, where the operands of an 8-bit variant lie, that its
instructions write bank 0 alone, and how an instruction can be refused; and the statements of 20_memory.md settled with
them. -/

namespace Sys2Proof.Machine

variable {s t u : State} {o : Operand} {f : Form} {w : Width}

/-! ## Results as numbers (R163 to R168, R185 to R188) -/

theorem narrow_ofNat (w : Width) (n : Nat) : narrow w (BitVec.ofNat 16 n) = BitVec.ofNat 16 (n % 2 ^ w.bits) := by
  apply BitVec.eq_of_toNat_eq
  rw [narrow_toNat, BitVec.toNat_ofNat, BitVec.toNat_ofNat]
  cases w
  case w8 =>
    simp only [Width.bits]
    omega
  case w16 => rfl

/-- A value of its width is below 2^w. -/
theorem toNat_lt_of_narrow {v : Word} (h : narrow w v = v) : v.toNat < 2 ^ w.bits := by
  rw [← h, narrow_toNat]
  exact Nat.mod_lt _ (Nat.two_pow_pos _)

theorem incValue_eq (w : Width) (v : Word) : incValue w v = BitVec.ofNat 16 ((v.toNat + 1) % 2 ^ w.bits) := by
  rw [incValue, ← narrow_ofNat, BitVec.ofNat_add, BitVec.ofNat_toNat, BitVec.setWidth_eq]

theorem decValue_eq (w : Width) (v : Word) :
    decValue w v = BitVec.ofNat 16 ((v.toNat + 2 ^ w.bits - 1) % 2 ^ w.bits) := by
  apply BitVec.eq_of_toNat_eq
  simp only [decValue, narrow_toNat, BitVec.toNat_sub, BitVec.toNat_ofNat]
  cases w <;> simp only [Width.bits] <;> omega

theorem shiftLeft_one_eq (v : Word) : v <<< 1 = BitVec.ofNat 16 (v.toNat * 2) :=
  BitVec.eq_of_toNat_eq (by simp [Nat.shiftLeft_eq])

theorem aslOut_r (w : Width) (v : Word) : (aslOut w v).r = BitVec.ofNat 16 (v.toNat * 2 % 2 ^ w.bits) := by
  rw [aslOut, shiftLeft_one_eq, narrow_ofNat]

/-- The carry comes into bit 0, which the shift left clear. -/
theorem rolOut_r (w : Width) (v : Word) (c : Bool) :
    (rolOut w v c).r = BitVec.ofNat 16 ((v.toNat * 2 + c.toNat) % 2 ^ w.bits) := by
  have carried : (v <<< 1) ||| (if c then 1#16 else 0#16) = BitVec.ofNat 16 (v.toNat * 2 + c.toNat) := by
    have clear : v <<< 1 &&& (if c then 1#16 else 0#16) = 0#16 := by
      cases c
      case false => exact BitVec.and_zero
      case true => rw [show 1#16 = BitVec.twoPow 16 0 from rfl, if_pos rfl, BitVec.and_twoPow]; simp
    rw [← BitVec.add_eq_or_of_and_eq_zero _ _ clear, shiftLeft_one_eq, BitVec.ofNat_add]
    cases c <;> rfl
  rw [rolOut, carried, narrow_ofNat]

theorem shiftRight_one_eq (v : Word) : v >>> 1 = BitVec.ofNat 16 (v.toNat / 2) :=
  BitVec.eq_of_toNat_eq (by have := v.isLt; simp [Nat.shiftRight_eq_div_pow]; omega)

theorem lsrOut_r {v : Word} (h : narrow w v = v) : (lsrOut w v).r = BitVec.ofNat 16 (v.toNat / 2) := by
  rw [lsrOut, h, shiftRight_one_eq]

theorem half_lt {v : Word} (h : narrow w v = v) : v.toNat / 2 < 2 ^ (w.bits - 1) := by
  have := toNat_lt_of_narrow h
  cases w <;> (simp only [Width.bits] at this ⊢; omega)

/-- Half a value of its width has bit w-1 clear. -/
theorem getLsbD_half {v : Word} (h : narrow w v = v) : (BitVec.ofNat 16 (v.toNat / 2)).getLsbD (w.bits - 1) = false := by
  rw [← shiftRight_one_eq]
  apply Nat.testBit_lt_two_pow
  rw [BitVec.toNat_ushiftRight, Nat.shiftRight_one]
  exact half_lt h

theorem topBit_eq (w : Width) : topBit w = BitVec.twoPow 16 (w.bits - 1) := by cases w <;> rfl

/-- The carry comes into bit w-1, which the shift left clear. -/
theorem rorOut_r {v : Word} (h : narrow w v = v) (c : Bool) :
    (rorOut w v c).r = BitVec.ofNat 16 (v.toNat / 2 + c.toNat * 2 ^ (w.bits - 1)) := by
  rw [rorOut, h]
  cases c
  case false => simp [shiftRight_one_eq]
  case true =>
    have clear : v >>> 1 &&& topBit w = 0#16 := by
      rw [topBit_eq, BitVec.and_twoPow, shiftRight_one_eq, getLsbD_half h]
      rfl
    rw [if_pos rfl, ← BitVec.add_eq_or_of_and_eq_zero _ _ clear, shiftRight_one_eq, BitVec.ofNat_add]
    cases w <;> rfl

theorem narrow_lsrOut {v : Word} (h : narrow w v = v) : narrow w (lsrOut w v).r = (lsrOut w v).r := by
  have := half_lt h
  rw [lsrOut_r h, narrow_ofNat]
  cases w <;> (simp only [Width.bits] at this ⊢; congr 1; omega)

theorem narrow_rorOut {v : Word} (h : narrow w v = v) (c : Bool) :
    narrow w (rorOut w v c).r = (rorOut w v c).r := by
  have := half_lt h
  have := c.toNat_le
  rw [rorOut_r h, narrow_ofNat]
  cases w <;> (simp only [Width.bits] at *; congr 1; omega)

/-! ## Read-modify-write instructions (R71) -/

theorem State.writesBack.imp {r : Word} {fs : List Flag} {P Q : State → Prop} {out : Out}
    (h : s.writesBack o r fs P out) (hPQ : ∀ t, P t → Q t) : s.writesBack o r fs Q out := by
  obtain ⟨t, hout, hP, rest⟩ := h
  exact ⟨t, hout, hPQ t hP, rest⟩

/-- The flags kept are those of any state with the same P. -/
theorem State.keepsFlagsBut.of_p {fs : List Flag} (h : t.keepsFlagsBut u fs) (hp : t.p = s.p) :
    s.keepsFlagsBut u fs := fun g hg => (h g hg).trans (State.flag_of_p hp g)

/-- INC and DEC: n and z of the result alone are written. -/
theorem rmw_setNZ_writesBack {res : Width → Word → Word} (hw : Memory.wf s.mem = true)
    (hd : ¬ s.onSensitiveDevice (o.loc s) s.wA) (hr : ∀ v, narrow s.wA (res s.wA v) = res s.wA v) :
    s.writesBack o (res s.wA (s.readData (o.loc s) s.wA)) [.n, .z]
      (fun t => t.nzFrom s.wA (res s.wA (s.readData (o.loc s) s.wA)))
      (rmw o res (fun t w v => t.setNZ w (res w v)) s) :=
  rmw_writesBack hw hd (fun _ _ _ => rfl)
    (fun t _ hp => (t.keepsFlagsBut_setNZ _ _).of_p hp) fun t _ _ => t.nzFrom_setNZ (hr _)

theorem State.keepsFlagsBut_setShift (s : State) (w : Width) (r : ShiftOut) :
    s.keepsFlagsBut (s.setShift w r) [.n, .z, .c] := by
  intro g hg
  simp only [List.mem_cons, List.not_mem_nil, or_false, not_or] at hg
  obtain ⟨hn, hz, hc⟩ := hg
  rw [State.flag_setShift, if_neg hc, if_neg hz, if_neg hn]

theorem State.nzFrom_setShift (s : State) {r : ShiftOut} (hr : narrow w r.r = r.r) : (s.setShift w r).nzFrom w r.r :=
  State.nzFrom_of_flags hr (by simp [State.flag_setShift]) (by simp [State.flag_setShift])

/-- A shift or rotate: n and z of the result and the bit shifted out (R191). -/
theorem shift_writesBack {k : Width → Word → ShiftOut} (hw : Memory.wf s.mem = true)
    (hd : ¬ s.onSensitiveDevice (o.loc s) s.wA) (hr : ∀ v, narrow s.wA v = v → narrow s.wA (k s.wA v).r = (k s.wA v).r) :
    s.writesBack o (k s.wA (s.readData (o.loc s) s.wA)).r [.n, .z, .c]
      (fun t => t.nzFrom s.wA (k s.wA (s.readData (o.loc s) s.wA)).r ∧
        t.flag .c = (k s.wA (s.readData (o.loc s) s.wA)).c) (shift k o s) :=
  rmw_writesBack hw hd (fun _ _ _ => rfl) (fun t _ hp => (t.keepsFlagsBut_setShift _ _).of_p hp) fun t _ _ =>
    ⟨t.nzFrom_setShift (hr _ (s.narrow_readData _ _)), by simp [State.flag_setShift]⟩

/-- TRB and TSB: z alone is written, from the accumulator and the value read (R189, R190). -/
theorem rmw_setTestZ_writesBack {res : Width → Word → Word} (hw : Memory.wf s.mem = true)
    (hd : ¬ s.onSensitiveDevice (o.loc s) s.wA) (a : Word) :
    s.writesBack o (res s.wA (s.readData (o.loc s) s.wA)) [.z]
      (fun t => t.flag .z = decide (a &&& s.readData (o.loc s) s.wA = 0#16))
      (rmw o res (fun t _ m => t.setTestZ a m) s) := by
  refine rmw_writesBack hw hd (fun _ _ _ => rfl) (fun t _ hp => State.keepsFlagsBut.of_p (fun g hg => ?_) hp)
    fun t n _ => ?_
  · rw [State.advance_flag, State.flag_setTestZ, if_neg (List.mem_singleton.not.mp hg)]
  · rw [State.advance_flag, State.flag_setTestZ, if_pos rfl]
    rfl

theorem exists_rmw_of_shift {k : Width → Word → ShiftOut} {out : Out} (h : out = shift k o s) :
    ∃ res flags, out = rmw o res flags s := ⟨_, _, h⟩

/-- Every read-modify-write instruction has the one shape that tests for a sensitive device. -/
theorem rmwForms_exec (h : some f ∈ rmwForms o) (s : State) : ∃ res flags, exec f.instr s = rmw o res flags s := by
  simp only [rmwForms, List.mem_cons, List.not_mem_nil, or_false] at h
  rcases h with h | h | h | h | h | h | h | h
  · exact exists_rmw_of_shift ((aslForm_exec h.symm).2 s)
  · exact exists_rmw_of_shift ((lsrForm_exec h.symm).2 s)
  · exact exists_rmw_of_shift ((rolForm_exec h.symm).2 s)
  · exact exists_rmw_of_shift ((rorForm_exec h.symm).2 s)
  · exact ⟨_, _, (incForm_exec h.symm).2 s⟩
  · exact ⟨_, _, (decForm_exec h.symm).2 s⟩
  · exact ⟨_, _, (trbForm_exec h.symm).2 s⟩
  · exact ⟨_, _, (tsbForm_exec h.symm).2 s⟩

/-! ## Accesses through an indexed operand (U13) -/

/-- The instructions with an operand of the accumulator width access it once. -/
theorem accessFormsM_exec (h : some f ∈ accessFormsM o) (s : State) : ∃ t, exec f.instr s = accessOnce o s.wA s t := by
  simp only [accessFormsM, List.mem_cons, List.not_mem_nil, or_false] at h
  rcases h with h | h | h | h | h | h | h | h | h | h
  · exact ⟨_, (adcForm_exec h.symm).2 s⟩
  · exact ⟨_, (sbcForm_exec h.symm).2 s⟩
  · exact ⟨_, (andForm_exec h.symm).2 s⟩
  · exact ⟨_, (eorForm_exec h.symm).2 s⟩
  · exact ⟨_, (oraForm_exec h.symm).2 s⟩
  · exact ⟨_, (bitForm_exec h.symm).2 s⟩
  · exact ⟨_, (cmpForm_exec h.symm).2 s⟩
  · exact ⟨_, (ldaForm_exec h.symm).2 s⟩
  · exact ⟨_, (staForm_exec h.symm).2 s⟩
  · exact ⟨_, (stzForm_exec h.symm).2 s⟩

/-- So do those with an operand of the index width. -/
theorem accessFormsX_exec (h : some f ∈ accessFormsX o) (s : State) : ∃ t, exec f.instr s = accessOnce o s.wX s t := by
  simp only [accessFormsX, List.mem_cons, List.not_mem_nil, or_false] at h
  rcases h with h | h | h
  · exact ⟨_, (ldyForm_exec h.symm).2 s⟩
  · exact ⟨_, (stxForm_exec h.symm).2 s⟩
  · exact ⟨_, (styForm_exec h.symm).2 s⟩

theorem ldxAbsOperand_eq (i : LdxIndex) (a : Word) : ldxAbsOperand i a = if i = .y then .absY a else .absX a := by
  cases i <;> rfl

theorem ldxDpOperand_eq (i : LdxIndex) (k : Byte) : ldxDpOperand i k = if i = .y then .dpY k else .dpX k := by
  cases i <;> rfl

/-- Outside the corner of R154 two pushes stay in page 1. -/
theorem State.pushWraps_two_eq_false (h : s.e = true → 1 ≤ (loByte s.s).toNat) : s.pushWraps 2 = false := by
  unfold State.pushWraps
  cases he : s.e
  case false => rfl
  case true =>
    rw [Bool.true_and, decide_eq_false_iff_not]
    have := h he
    omega

/-! ## Stores -/

/-- A store takes the bytes of its width, so that only the low part of the value counts. -/
theorem Loc.stores_narrow (l : Loc) (w : Width) (v : Word) : l.stores w (narrow w v) = l.stores w v := by
  cases l
  case imm | acc => rfl
  case mem a0 a1 =>
    cases w
    case w8 => simp only [Loc.stores, loByte_narrow]
    case w16 => rfl

/-- A register stored at a width: the bytes of its low part. -/
theorem store_narrow_storesOnly (hw : Memory.wf s.mem = true) (ho : o ≠ .acc) (hd : ¬ o.onIndexedDevice s w) (v : Word) :
    s.storesOnly ((o.loc s).stores w v) (o.len s) (store o w (narrow w v) s) := by
  rw [← Loc.stores_narrow]
  exact store_storesOnly hw o ho w _ hd

/-! ## Locations on the 8-bit variants (R122, R149) -/

theorem toNat_lt_of_hiByte_zero {v : Word} (h : hiByte v = 0x00#8) : v.toNat < 256 := by
  have := congrArg BitVec.toNat h
  rw [hiByte_toNat, BitVec.toNat_ofNat] at this
  omega

theorem narrow_w8_of_hiByte_zero {v : Word} (h : hiByte v = 0x00#8) : narrow .w8 v = v :=
  narrow_of_lt .w8 v (toNat_lt_of_hiByte_zero h)

theorem zext_add_toNat (b : Byte) {x : Word} (h : x.toNat < 256) : (zext b + x).toNat = b.toNat + x.toNat := by
  have := b.isLt
  rw [BitVec.toNat_add, zext_toNat]
  omega

/-- The pointer whose low byte lies at `n` in page 0; the page wraps (R132, R149). -/
def State.zeroPagePointer (s : State) (n : Nat) : Nat :=
  (s.read .pointer (BitVec.ofNat 24 (n % 256))).toNat +
    256 * (s.read .pointer (BitVec.ofNat 24 ((n + 1) % 256))).toNat

theorem b0_lt (off : Word) : (b0 off).toNat < 65536 := by
  rw [b0_toNat]
  exact off.isLt

theorem State.dpw_lt (s : State) (off : Word) : (s.dpw off).toNat < 65536 := by
  unfold State.dpw
  split
  · exact b0_lt _
  · exact b0_lt _

section EightBitVariant

variable (hv : s.cfg.variant ≠ .m65816) (hi : s.Inv)

include hv

theorem State.wX_of_8bit : s.wX = .w8 := by
  rcases s.wX_cases with h | ⟨-, h, -⟩
  · exact h
  · exact absurd h hv

theorem State.lin_lt_of_8bit (a : Addr) : (s.lin a).toNat < 65536 := by
  rw [State.lin, if_neg hv, b0_toNat]
  exact BitVec.isLt _

/-- Both bytes of every operand lie below 2^16. -/
theorem Operand.loc_lt_of_8bit (o : Operand) {a0 a1 : Addr} (h : o.loc s = .mem a0 a1) :
    a0.toNat < 65536 ∧ a1.toNat < 65536 := by
  cases o
  case immM | immX | acc => cases h
  case dp | dpX | dpY =>
    cases h
    exact ⟨s.dpw_lt _, s.dpw_lt _⟩
  case sr =>
    cases h
    exact ⟨b0_lt _, b0_lt _⟩
  all_goals
    cases h
    exact ⟨State.lin_lt_of_8bit hv _, State.lin_lt_of_8bit hv _⟩

include hi

theorem State.Inv.index_x_of_8bit : s.index .x = s.x :=
  (congrArg (narrow · s.x) (State.wX_of_8bit hv)).trans (narrow_w8_of_hiByte_zero (hi.narrowIndex (State.wX_of_8bit hv)).1)

theorem State.Inv.index_y_of_8bit : s.index .y = s.y :=
  (congrArg (narrow · s.y) (State.wX_of_8bit hv)).trans (narrow_w8_of_hiByte_zero (hi.narrowIndex (State.wX_of_8bit hv)).2)

theorem State.Inv.x_lt_of_8bit : s.x.toNat < 256 :=
  toNat_lt_of_hiByte_zero (hi.narrowIndex (State.wX_of_8bit hv)).1

theorem State.Inv.y_lt_of_8bit : s.y.toNat < 256 :=
  toNat_lt_of_hiByte_zero (hi.narrowIndex (State.wX_of_8bit hv)).2

theorem State.Inv.dpw_of_8bit (off : Word) : s.dpw off = BitVec.ofNat 24 (off.toNat % 256) := by
  obtain ⟨he, hd, -⟩ := hi.narrowVariant hv
  apply BitVec.eq_of_toNat_eq
  rw [State.dpw, hd, if_pos ⟨he, rfl⟩, b0_toNat, word_toNat, loByte_toNat, hiByte_toNat, BitVec.toNat_ofNat]
  simp only [BitVec.toNat_ofNat]
  omega

theorem State.Inv.dpLoc_isMem_of_8bit {off : Word} {n : Nat} (h : off.toNat = n) :
    (s.dpLoc off).isMem (n % 256) ((n + 1) % 256) := by
  refine ⟨_, _, rfl, ?_, ?_⟩
  · rw [hi.dpw_of_8bit hv, h, BitVec.toNat_ofNat]
    omega
  · rw [hi.dpw_of_8bit hv, BitVec.toNat_add, h, BitVec.toNat_ofNat, BitVec.toNat_ofNat]
    omega

theorem State.Inv.dpPointer_of_8bit {off : Word} {n : Nat} (h : off.toNat = n) :
    (s.dpPointer off).toNat = s.zeroPagePointer n := by
  have next : (off + 1#16).toNat % 256 = (n + 1) % 256 := by
    rw [BitVec.toNat_add, h, BitVec.toNat_ofNat]
    omega
  rw [State.dpPointer, word_toNat, hi.dpw_of_8bit hv, hi.dpw_of_8bit hv, next, h, State.zeroPagePointer]
  omega

/-- DBR is 0, so an offset in its bank and an index make a sum mod 2^16. -/
theorem State.Inv.memLin_isMem_of_8bit {v : Word} {n : Nat} (h : v.toNat = n) :
    (s.memLin (bankAddr s.dbr v)).isMem n ((n + 1) % 65536) := by
  have lt : n % 65536 = n := Nat.mod_eq_of_lt (h ▸ v.isLt)
  obtain ⟨-, -, hdbr, -⟩ := hi.narrowVariant hv
  have sum := State.memLin_isMem_narrow hv (bankAddr s.dbr v) n (by rw [hdbr, ← asAddr, asAddr_toNat, h])
  rwa [lt] at sum

theorem State.Inv.memLin_index_isMem_of_8bit {v : Word} (x : Word) {n : Nat} (h : v.toNat = n) :
    (s.memLin (bankAddr s.dbr v + asAddr x)).isMem ((n + x.toNat) % 65536) ((n + x.toNat + 1) % 65536) := by
  obtain ⟨-, -, hdbr, -⟩ := hi.narrowVariant hv
  refine State.memLin_isMem_narrow hv _ _ ?_
  rw [hdbr, BitVec.toNat_add, asAddr_toNat, ← asAddr, asAddr_toNat, h]
  omega

end EightBitVariant

/-! ## What an 8-bit variant stores (R60, R122) -/

/-- The memory of `t` is canonical and every byte of it at or above 2^16 is that of `s`. -/
structure State.WritesLow (s t : State) : Prop where
  wf : Memory.wf t.mem = true
  high : ∀ a : Addr, 65536 ≤ a.toNat → Memory.read t.mem a.toNat = Memory.read s.mem a.toNat

theorem State.WritesLow.of_mem_eq (h : s.WritesLow t) (hm : u.mem = t.mem) : s.WritesLow u :=
  ⟨hm ▸ h.wf, hm ▸ h.high⟩

theorem State.WritesLow.write (h : s.WritesLow t) {a : Addr} (ha : a.toNat < 65536) (b : Byte) :
    s.WritesLow (t.write a b) := by
  refine ⟨State.wf_write t a b h.wf, fun x hx => ?_⟩
  rw [← h.high x hx, State.write_mem]
  split
  · exact (Memory.read_write t.mem 0 a.toNat x.toNat b h.wf).trans (if_neg (by omega))
  · rfl

/-- The stack lies in bank 0 (R150). -/
theorem State.WritesLow.push8 (h : s.WritesLow t) (b : Byte) : s.WritesLow (t.push8 b) :=
  (h.write (b0_lt t.s) b).of_mem_eq rfl

theorem State.WritesLow.push16 (h : s.WritesLow t) (v : Word) : s.WritesLow (t.push16 v) :=
  (h.push8 _).push8 _

theorem State.WritesLow.pushW (h : s.WritesLow t) (w : Width) (v : Word) : s.WritesLow (t.pushW w v) := by
  cases w
  case w8 => exact h.push8 _
  case w16 => exact h.push16 _

theorem State.WritesLow.jsrPushed (h : s.WritesLow t) : s.WritesLow t.jsrPushed := h.push16 t.jsrReturn

theorem State.WritesLow.jslPushed (h : s.WritesLow t) : s.WritesLow t.jslPushed :=
  (h.push8 t.pbr).push16 (t.pc + 3#16)

theorem State.WritesLow.pushFrame (h : s.WritesLow t) (k : Cause) (ret : Word) : s.WritesLow (t.pushFrame k ret) := by
  unfold State.pushFrame
  split
  · exact (h.push16 _).push8 _
  · exact ((h.push8 _).push16 _).push8 _

theorem State.WritesLow.enterInterrupt (h : s.WritesLow t) (k : Cause) (ret : Word) :
    s.WritesLow (t.enterInterrupt k ret) :=
  (h.pushFrame k ret).of_mem_eq (by rw [t.enterInterrupt_eq])

theorem State.WritesLow.writeData {l : Loc} (h : s.WritesLow t)
    (hl : ∀ a0 a1, l = .mem a0 a1 → a0.toNat < 65536 ∧ a1.toNat < 65536) (w : Width) (v : Word) :
    s.WritesLow (t.writeData l w v) := by
  cases l
  case imm => exact h
  case acc => exact h.of_mem_eq rfl
  case mem a0 a1 =>
    obtain ⟨h0, h1⟩ := hl a0 a1 rfl
    cases w
    case w8 => exact h.write h0 _
    case w16 => exact (h.write h0 _).write h1 _

section WritesLow

variable (h0 : s.WritesLow s)

include h0

theorem store_writesLow {v : Word} (hv : s.cfg.variant ≠ .m65816) (h : store o w v s = .next t) : s.WritesLow t := by
  cases accessOnce_next h
  exact (h0.writeData (fun _ _ => o.loc_lt_of_8bit hv) w v).of_mem_eq rfl

theorem rmw_writesLow {res : Width → Word → Word} {flags : State → Width → Word → State}
    (hv : s.cfg.variant ≠ .m65816) (h : rmw o res flags s = .next t) (hf : ∀ u w v, (flags u w v).mem = u.mem) :
    s.WritesLow t := by
  cases of_if_next h
  exact (h0.writeData (fun _ _ => o.loc_lt_of_8bit hv) s.wA _).of_mem_eq (hf _ _ _)

theorem shift_writesLow {k : Width → Word → ShiftOut} (hv : s.cfg.variant ≠ .m65816) (h : shift k o s = .next t) :
    s.WritesLow t := rmw_writesLow h0 hv h fun _ _ _ => rfl

theorem push_writesLow {v : Word} (h : push w v s = .next t) : s.WritesLow t := by
  cases h
  exact (h0.pushW w v).of_mem_eq rfl

theorem pushByte_writesLow {v : Byte} (h : pushByte v s = .next t) : s.WritesLow t := by
  cases h
  exact (h0.push8 v).of_mem_eq rfl

theorem pushWord_writesLow {v : Word} {n : Nat} (h : pushWord v n s = .next t) : s.WritesLow t := by
  cases of_if_next h
  exact (h0.push16 v).of_mem_eq rfl

end WritesLow

/-- An instruction of an 8-bit variant writes low, case by case over the instructions that store (R63); the block moves, which
address any bank, are not among its instructions. -/
theorem exec_writesLow {i : Instr} (hv : s.cfg.variant ≠ .m65816) (hw : Memory.wf s.mem = true)
    (ha : i.availableOn s.cfg.variant = true) (h : exec i s = .next t) : s.WritesLow t := by
  have h0 : s.WritesLow s := ⟨hw, fun _ _ => rfl⟩
  have kept := (exec_withinBounds h).mem
  cases i
  all_goals dsimp only [exec] at h
  case staDpXInd | staSr | staDp | staDpIndLong | staAbs | staLong | staDpIndY | staDpInd | staSrIndY | staDpX
    | staDpIndLongY | staAbsY | staAbsX | staLongX =>
    exact store_writesLow h0 hv (show sta _ s = .next t from h)
  case styDp | stxDp | styAbs | stxAbs | styDpX | stxDpY =>
    exact store_writesLow h0 hv (show stIndex _ _ s = .next t from h)
  case stzDp | stzDpX | stzAbs | stzAbsX =>
    exact store_writesLow h0 hv (show stz _ s = .next t from h)
  case aslDp | aslAbs | aslDpX | aslAbsX =>
    exact shift_writesLow h0 hv (show asl _ s = .next t from h)
  case lsrDp | lsrAbs | lsrDpX | lsrAbsX =>
    exact shift_writesLow h0 hv (show lsr _ s = .next t from h)
  case rolDp | rolAbs | rolDpX | rolAbsX =>
    exact shift_writesLow h0 hv (show rol _ s = .next t from h)
  case rorDp | rorAbs | rorDpX | rorAbsX =>
    exact shift_writesLow h0 hv (show ror _ s = .next t from h)
  case incDp | incAbs | incDpX | incAbsX =>
    exact rmw_writesLow h0 hv (show inc _ s = .next t from h) fun _ _ _ => rfl
  case decDp | decAbs | decDpX | decAbsX =>
    exact rmw_writesLow h0 hv (show dec1 _ s = .next t from h) fun _ _ _ => rfl
  case trbDp | trbAbs =>
    exact rmw_writesLow h0 hv (show trb _ s = .next t from h) fun _ _ _ => rfl
  case tsbDp | tsbAbs =>
    exact rmw_writesLow h0 hv (show tsb _ s = .next t from h) fun _ _ _ => rfl
  case pha | phx | phy =>
    exact push_writesLow h0 h
  case phb | phk | php =>
    exact pushByte_writesLow h0 h
  case phd | pea | pei | per =>
    exact pushWord_writesLow h0 h
  case jsrAbs =>
    cases h
    exact h0.jsrPushed.of_mem_eq rfl
  case jsrXInd =>
    cases of_if_next (of_if_next h)
    exact h0.jsrPushed.of_mem_eq rfl
  case jsl =>
    cases of_if_next h
    exact h0.jslPushed.of_mem_eq rfl
  case brk | cop =>
    cases h
    exact h0.enterInterrupt _ _
  case mvn | mvp =>
    refine absurd (variant_of_availableOn ?_ ha) hv
    rfl
  all_goals exact h0.of_mem_eq (kept rfl)

/-! ## What can be refused (R71, R154, R320) -/

/-- The outcome is a next state, or a refusal of R154 in emulation mode, or one of R71 where there is a sensitive device. -/
inductive State.MayAnswer (s : State) : Out → Prop
  | next (t : State) : s.MayAnswer (.next t)
  | stackWrap (he : s.e = true) : s.MayAnswer (.refused .emulationStackWrap)
  | sensitiveDevice (hd : ¬ s.noSensitiveDevice) : s.MayAnswer (.refused .deviceRMW)

theorem State.MayAnswer.completes {out : Out} (h : s.MayAnswer out) (he : s.e = false) (hd : s.noSensitiveDevice) :
    ∃ t, out = .next t := by
  cases h
  case next t => exact ⟨t, rfl⟩
  case stackWrap h => exact absurd h (by rw [he]; decide)
  case sensitiveDevice h => exact absurd hd h

theorem State.MayAnswer.refusal {out : Out} {r : Refusal} (h : s.MayAnswer out) (hr : out = .refused r) :
    (r = .emulationStackWrap ∧ s.e = true) ∨ (r = .deviceRMW ∧ ¬ s.noSensitiveDevice) := by
  cases h
  case next => cases hr
  case stackWrap he =>
    cases hr
    exact .inl ⟨rfl, he⟩
  case sensitiveDevice hd =>
    cases hr
    exact .inr ⟨rfl, hd⟩

theorem State.e_of_pushWraps {k : Nat} (h : s.pushWraps k = true) : s.e = true := (Bool.and_eq_true_iff.mp h).1

theorem State.e_of_pullWraps {k : Nat} (h : s.pullWraps k = true) : s.e = true := (Bool.and_eq_true_iff.mp h).1

/-- A test of the corner of R154 before an instruction. -/
theorem State.MayAnswer.if_stackWrap {b : Bool} {out : Out} (hb : b = true → s.e = true) (h : s.MayAnswer out) :
    s.MayAnswer (if b = true then .refused .emulationStackWrap else out) := by
  split
  case isTrue hwrap => exact .stackWrap (hb hwrap)
  case isFalse => exact h

/-- A test for a sensitive device before an instruction. -/
theorem State.MayAnswer.if_device {l : Loc} {out : Out} (h : s.MayAnswer out) :
    s.MayAnswer (if s.meetsSensitiveDevice l w = true then .refused .deviceRMW else out) := by
  split
  case isTrue hmeets =>
    exact .sensitiveDevice fun hd => State.not_onSensitiveDevice hd l w ((s.meetsSensitiveDevice_iff l w).mp hmeets)
  case isFalse => exact h

theorem accessOnce_mayAnswer : s.MayAnswer (accessOnce o w s t) := by
  rcases accessOnce_cases o w s t with ⟨h, -⟩ | ⟨h, hd⟩
  · rw [h]
    exact .next t
  · rw [h]
    exact .sensitiveDevice fun hno => Operand.not_onIndexedDevice hno o w hd

theorem rmw_mayAnswer {res : Width → Word → Word} {flags : State → Width → Word → State} :
    s.MayAnswer (rmw o res flags s) := .if_device (.next _)

theorem pushWord_mayAnswer {v : Word} {n : Nat} : s.MayAnswer (pushWord v n s) :=
  .if_stackWrap State.e_of_pushWraps (.next _)

theorem addResult_mayAnswer {r : AddOut} : s.MayAnswer (addResult o r s) := accessOnce_mayAnswer

theorem logic_mayAnswer {k : Word → Word → Word} : s.MayAnswer (logic k o s) := accessOnce_mayAnswer

theorem store_mayAnswer {v : Word} : s.MayAnswer (store o w v s) := accessOnce_mayAnswer

theorem bitMemory_mayAnswer : s.MayAnswer (bitMemory o s) := accessOnce_mayAnswer

theorem shift_mayAnswer {k : Width → Word → ShiftOut} : s.MayAnswer (shift k o s) := rmw_mayAnswer

/-- One case per instruction, grouped by the test that comes before its effect; the others have none. -/
theorem exec_mayAnswer (i : Instr) (s : State) : s.MayAnswer (exec i s) := by
  cases i
  all_goals dsimp only [exec]
  case adcDpXInd | adcSr | adcDp | adcDpIndLong | adcImm | adcAbs | adcLong | adcDpIndY | adcDpInd | adcSrIndY
    | adcDpX | adcDpIndLongY | adcAbsY | adcAbsX | adcLongX =>
    show s.MayAnswer (adc _ s)
    exact addResult_mayAnswer
  case sbcDpXInd | sbcSr | sbcDp | sbcDpIndLong | sbcImm | sbcAbs | sbcLong | sbcDpIndY | sbcDpInd | sbcSrIndY
    | sbcDpX | sbcDpIndLongY | sbcAbsY | sbcAbsX | sbcLongX =>
    show s.MayAnswer (sbc _ s)
    exact addResult_mayAnswer
  case andDpXInd | andSr | andDp | andDpIndLong | andImm | andAbs | andLong | andDpIndY | andDpInd | andSrIndY
    | andDpX | andDpIndLongY | andAbsY | andAbsX | andLongX =>
    show s.MayAnswer (and1 _ s)
    exact logic_mayAnswer
  case eorDpXInd | eorSr | eorDp | eorDpIndLong | eorImm | eorAbs | eorLong | eorDpIndY | eorDpInd | eorSrIndY
    | eorDpX | eorDpIndLongY | eorAbsY | eorAbsX | eorLongX =>
    show s.MayAnswer (eor _ s)
    exact logic_mayAnswer
  case oraDpXInd | oraSr | oraDp | oraDpIndLong | oraImm | oraAbs | oraLong | oraDpIndY | oraDpInd | oraSrIndY
    | oraDpX | oraDpIndLongY | oraAbsY | oraAbsX | oraLongX =>
    show s.MayAnswer (ora _ s)
    exact logic_mayAnswer
  case cmpDpXInd | cmpSr | cmpDp | cmpDpIndLong | cmpImm | cmpAbs | cmpLong | cmpDpIndY | cmpDpInd | cmpSrIndY
    | cmpDpX | cmpDpIndLongY | cmpAbsY | cmpAbsX | cmpLongX =>
    show s.MayAnswer (cmp _ s)
    exact accessOnce_mayAnswer
  case ldaDpXInd | ldaSr | ldaDp | ldaDpIndLong | ldaImm | ldaAbs | ldaLong | ldaDpIndY | ldaDpInd | ldaSrIndY
    | ldaDpX | ldaDpIndLongY | ldaAbsY | ldaAbsX | ldaLongX =>
    show s.MayAnswer (lda _ s)
    exact accessOnce_mayAnswer
  case bitDp | bitAbs | bitDpX | bitAbsX =>
    exact bitMemory_mayAnswer
  case ldyImm | ldxImm | ldyDp | ldxDp | ldyAbs | ldxAbs | ldyDpX | ldxDpY | ldyAbsX | ldxAbsY =>
    show s.MayAnswer (ldIndex _ _ s)
    exact accessOnce_mayAnswer
  case staDpXInd | staSr | staDp | staDpIndLong | staAbs | staLong | staDpIndY | staDpInd | staSrIndY | staDpX
    | staDpIndLongY | staAbsY | staAbsX | staLongX =>
    show s.MayAnswer (sta _ s)
    exact store_mayAnswer
  case styDp | stxDp | styAbs | stxAbs | styDpX | stxDpY =>
    show s.MayAnswer (stIndex _ _ s)
    exact store_mayAnswer
  case stzDp | stzDpX | stzAbs | stzAbsX =>
    show s.MayAnswer (stz _ s)
    exact store_mayAnswer
  case aslA | aslDp | aslAbs | aslDpX | aslAbsX =>
    show s.MayAnswer (asl _ s)
    exact shift_mayAnswer
  case lsrA | lsrDp | lsrAbs | lsrDpX | lsrAbsX =>
    show s.MayAnswer (lsr _ s)
    exact shift_mayAnswer
  case rolA | rolDp | rolAbs | rolDpX | rolAbsX =>
    show s.MayAnswer (rol _ s)
    exact shift_mayAnswer
  case rorA | rorDp | rorAbs | rorDpX | rorAbsX =>
    show s.MayAnswer (ror _ s)
    exact shift_mayAnswer
  case incA | incDp | incAbs | incDpX | incAbsX =>
    show s.MayAnswer (inc _ s)
    exact rmw_mayAnswer
  case decA | decDp | decAbs | decDpX | decAbsX =>
    show s.MayAnswer (dec1 _ s)
    exact rmw_mayAnswer
  case trbDp | trbAbs =>
    show s.MayAnswer (trb _ s)
    exact rmw_mayAnswer
  case tsbDp | tsbAbs =>
    show s.MayAnswer (tsb _ s)
    exact rmw_mayAnswer
  case phd | pea | pei | per =>
    exact pushWord_mayAnswer
  case jsl =>
    exact .if_stackWrap State.e_of_pushWraps (.next _)
  case rtl | pld | plb =>
    exact .if_stackWrap State.e_of_pullWraps (.next _)
  case jmpXInd =>
    exact .if_device (.next _)
  case jsrXInd =>
    exact .if_stackWrap State.e_of_pushWraps (.if_device (.next _))
  all_goals exact .next _

end Sys2Proof.Machine

/-! ## The statements of 20_memory.md -/

namespace Sys2Proof.MemoryRules

open Sys2Proof Sys2Proof.Machine

/-- Settles O8: reading after writing, and the canonical form under a write. -/
theorem memoryReadsWhatWasLastWritten : Obligations.MemoryReadsWhatWasLastWritten :=
  fun s a b v k hw => ⟨s.read_write a b v k hw, s.wf_write a v hw⟩

/-- Settles O11: each sum is that of a linear location, a direct page location or a direct page pointer, with D = 0, DBR = 0 and
e = 1 (I1). -/
theorem locations8Bit : Obligations.Locations8Bit := by
  intro s o a hv hi
  have hX := hi.index_x_of_8bit hv
  have hY := hi.index_y_of_8bit hv
  have ox : (zext o + s.x).toNat = o.toNat + s.x.toNat := zext_add_toNat o (hi.x_lt_of_8bit hv)
  have oy : (zext o + s.y).toNat = o.toNat + s.y.toNat := zext_add_toNat o (hi.y_lt_of_8bit hv)
  have direct := hi.dpPointer_of_8bit hv (zext_toNat o)
  refine ⟨hi.memLin_isMem_of_8bit hv rfl, ?absX, ?absY, ?dp, ?dpX, ?dpY,
    hi.memLin_isMem_of_8bit hv direct, ?dpXInd, ?dpIndY⟩
  case absX =>
    rw [Operand.loc, hX]
    exact hi.memLin_index_isMem_of_8bit hv s.x rfl
  case absY =>
    rw [Operand.loc, hY]
    exact hi.memLin_index_isMem_of_8bit hv s.y rfl
  case dp =>
    have located := hi.dpLoc_isMem_of_8bit hv (zext_toNat o)
    rwa [Nat.mod_eq_of_lt o.isLt] at located
  case dpX =>
    rw [Operand.loc, hX]
    exact hi.dpLoc_isMem_of_8bit hv ox
  case dpY =>
    rw [Operand.loc, hY]
    exact hi.dpLoc_isMem_of_8bit hv oy
  case dpXInd =>
    rw [Operand.loc, hX]
    exact hi.memLin_isMem_of_8bit hv (hi.dpPointer_of_8bit hv ox)
  case dpIndY =>
    rw [Operand.loc, hY]
    exact hi.memLin_index_isMem_of_8bit hv s.y direct

/-- Settles O18: INC and DEC are read-modify-write instructions with n and z of the result, the others load an index register
with its value stepped at its width. -/
theorem incrementsAndDecrements : Obligations.IncrementsAndDecrements := by
  intro s o f hw up down v x y
  have stepped (r : IndexReg) (k : Width → Word → Word) (hk : ∀ v, narrow s.wX (k s.wX v) = k s.wX v) :
      s.loadsIndex r s.wX (k s.wX (s.idx r s.wX)) 1 (stepIndex r k s) := s.loadsIndex_setNZ r s.wX _ (hk _) 1
  have inx := stepped .x incValue fun _ => narrow_narrow _ _
  have iny := stepped .y incValue fun _ => narrow_narrow _ _
  have dex := stepped .x decValue fun _ => narrow_narrow _ _
  have dey := stepped .y decValue fun _ => narrow_narrow _ _
  simp only [State.idx, narrow_eq_lowBits, incValue_eq, decValue_eq] at inx iny dex dey
  refine ⟨fun hd => ⟨fun h => ?inc, fun h => ?dec⟩, ⟨rfl, rfl⟩, inx, ⟨rfl, rfl⟩, iny, ⟨rfl, rfl⟩, dex, ⟨rfl, rfl⟩, dey⟩
  case inc =>
    obtain ⟨henc, hex⟩ := incForm_exec h
    have written := rmw_setNZ_writesBack (res := incValue) hw hd fun _ => narrow_narrow _ _
    rw [incValue_eq] at written
    exact ⟨henc, hex s ▸ written⟩
  case dec =>
    obtain ⟨henc, hex⟩ := decForm_exec h
    have written := rmw_setNZ_writesBack (res := decValue) hw hd fun _ => narrow_narrow _ _
    rw [decValue_eq] at written
    exact ⟨henc, hex s ▸ written⟩

/-- Settles O21: the four shifts have one shape, and their results as numbers are those of the statement. -/
theorem shiftsAndRotates : Obligations.ShiftsAndRotates := by
  intro s o f hw hd w v c top asl lsr rol ror
  have hv : narrow w v = v := s.narrow_readData _ _
  refine ⟨fun h => ?asl, fun h => ?lsr, fun h => ?rol, fun h => ?ror⟩
  case asl =>
    obtain ⟨henc, hex⟩ := aslForm_exec h
    have written := shift_writesBack (k := aslOut) hw hd fun _ _ => narrow_narrow _ _
    rw [aslOut_r] at written
    exact ⟨henc, hex s ▸ written.imp fun _ ⟨hnz, hc⟩ => ⟨hnz, hc.trans (msb_eq w v)⟩⟩
  case lsr =>
    obtain ⟨henc, hex⟩ := lsrForm_exec h
    have written := shift_writesBack (k := lsrOut) hw hd fun _ h => narrow_lsrOut h
    rw [lsrOut_r hv] at written
    exact ⟨henc, hex s ▸ written.imp fun _ ⟨hnz, hc⟩ => ⟨hnz.1.trans (getLsbD_half hv), hnz, hc⟩⟩
  case rol =>
    obtain ⟨henc, hex⟩ := rolForm_exec h
    have written := shift_writesBack (k := fun w v => rolOut w v (s.flag .c)) hw hd fun _ _ => narrow_narrow _ _
    rw [rolOut_r] at written
    exact ⟨henc, hex s ▸ written.imp fun _ ⟨hnz, hc⟩ => ⟨hnz, hc.trans (msb_eq w v)⟩⟩
  case ror =>
    obtain ⟨henc, hex⟩ := rorForm_exec h
    have written := shift_writesBack (k := fun w v => rorOut w v (s.flag .c)) hw hd fun _ h => narrow_rorOut h _
    rw [rorOut_r hv] at written
    exact ⟨henc, hex s ▸ written⟩

/-- Settles O22: z comes from the accumulator and the value read, before the bits are cleared or set. -/
theorem testAndModifyBits : Obligations.TestAndModifyBits := by
  intro s o f hw hd w m z
  refine ⟨fun h => ?trb, fun h => ?tsb⟩
  case trb =>
    obtain ⟨henc, hex⟩ := trbForm_exec h
    exact ⟨henc, hex s ▸ rmw_setTestZ_writesBack (res := fun _ m => m &&& ~~~(s.acc s.wA)) hw hd (s.acc s.wA)⟩
  case tsb =>
    obtain ⟨henc, hex⟩ := tsbForm_exec h
    exact ⟨henc, hex s ▸ rmw_setTestZ_writesBack (res := fun _ m => m ||| s.acc s.wA) hw hd (s.acc s.wA)⟩

/-- Settles O33: the four stores differ in the register and its width alone. -/
theorem stores : Obligations.Stores := by
  intro s o f hw
  refine ⟨fun h hd => ?sta, fun h hd => ?stx, fun h hd => ?sty, fun h hd => ?stz⟩
  case sta =>
    obtain ⟨henc, hex⟩ := staForm_exec h
    exact ⟨henc, hex s ▸ store_narrow_storesOnly hw (staForm_ne_acc h) hd s.c⟩
  case stx =>
    obtain ⟨henc, hex⟩ := stxForm_exec h
    exact ⟨henc, hex s ▸ store_narrow_storesOnly hw (stxForm_ne_acc h) hd s.x⟩
  case sty =>
    obtain ⟨henc, hex⟩ := styForm_exec h
    exact ⟨henc, hex s ▸ store_narrow_storesOnly hw (styForm_ne_acc h) hd s.y⟩
  case stz =>
    obtain ⟨henc, hex⟩ := stzForm_exec h
    exact ⟨henc, hex s ▸ store_storesOnly hw o (stzForm_ne_acc h) s.wA 0#16 hd⟩

/-- Settles O56: what an instruction may answer, from both sides. -/
theorem instructionsCompleteButForTwoCorners : Obligations.InstructionsCompleteButForTwoCorners :=
  fun i s => ⟨(exec_mayAnswer i s).completes, fun _ => (exec_mayAnswer i s).refusal⟩

/-- Settles O59: an instruction that an 8-bit variant has writes low. -/
theorem narrowVariantsStayIn64K : Obligations.NarrowVariantsStayIn64K :=
  fun _ _ _ hv hi ha h => (exec_writesLow hv hi.memWf ha h).high

/-- Settles O23: the eight instructions share the test of R71. -/
theorem readModifyWriteOfDevicesRefused : Obligations.ReadModifyWriteOfDevicesRefused := by
  intro s o f hf hd
  obtain ⟨res, flags, hex⟩ := rmwForms_exec hf s
  rw [hex]
  exact rmw_refused hd

/-- Settles O60: the data instructions share the test of U13, the two jumps test the bytes of their pointer. -/
theorem indexedAccessesOfDevicesRefused : Obligations.IndexedAccessesOfDevicesRefused := by
  intro s o f a k far near
  refine ⟨fun hf hd => ?accM, fun hf hd => ?accX, fun hd => ?ldxAbsY, fun hd => ?ldxDpY, fun hd => ?jmp, fun he hd => ?jsr⟩
  case accM =>
    obtain ⟨t, hex⟩ := accessFormsM_exec hf s
    rw [hex]
    exact accessOnce_refused hd t
  case accX =>
    obtain ⟨t, hex⟩ := accessFormsX_exec hf s
    rw [hex]
    exact accessOnce_refused hd t
  case ldxAbsY => exact accessOnce_refused ((ldxAbsOperand_eq _ a).symm ▸ hd) _
  case ldxDpY => exact accessOnce_refused ((ldxDpOperand_eq _ k).symm ▸ hd) _
  case jmp => exact if_pos ((s.meetsSensitiveDevice_iff _ _).mpr hd)
  case jsr =>
    have noWrap : ¬ s.pushWraps 2 = true := by
      rw [State.pushWraps_two_eq_false he]
      decide
    exact (if_neg noWrap).trans (if_pos ((s.meetsSensitiveDevice_iff _ _).mpr hd))

end Sys2Proof.MemoryRules
end

section
/-! SUPPORT. What the decoder reads, from the bytes' side: the operand it takes, the length by width and the refusal of an opcode
the variant does not have; and the statements of 30_encoding.md settled with it. -/

namespace Sys2Proof

/-! ## The operand of what is decoded (R93, R95) -/

/-- One byte at 8 bits, two at 16. -/
theorem encodeImm_immOperand_prefix (w : Width) (b1 b2 b3 : Byte) :
    encodeImm w (immOperand w b1 b2) <+: [b1, b2, b3] := by
  rw [encodeImm_immOperand]
  exact (List.take_prefix _ _).trans (List.prefix_append [b1, b2] [b3])

/-- No row of R100 drops or reorders an operand byte. An immediate depends on a width and has a law of its own; in every other
row the operand bytes are laid out in full and read back one by one. -/
theorem operandBytes_decodeInstr_opcode (wm wx : Width) (i : Instr) (b1 b2 b3 : Byte) :
    (decodeInstr wm wx { op := i.opcode, b1 := b1, b2 := b2, b3 := b3 }).operandBytes wm wx <+: [b1, b2, b3] := by
  cases i
  all_goals dsimp only [decodeInstr, Instr.opcode]
  case oraImm | andImm | eorImm | adcImm | bitImm | ldaImm | cmpImm | sbcImm =>
    exact encodeImm_immOperand_prefix wm b1 b2 b3
  case ldyImm | ldxImm | cpyImm | cpxImm =>
    exact encodeImm_immOperand_prefix wx b1 b2 b3
  all_goals
    conv => arg 1; whnf
    simp

/-- An immediate is read at the width in force; no other operand has a condition. -/
theorem immFits_decodeInstr_opcode (wm wx : Width) (i : Instr) (b1 b2 b3 : Byte) :
    (decodeInstr wm wx { op := i.opcode, b1 := b1, b2 := b2, b3 := b3 }).immFits wm wx = true := by
  cases i
  all_goals dsimp only [decodeInstr, Instr.opcode]
  case oraImm | andImm | eorImm | adcImm | bitImm | ldaImm | cmpImm | sbcImm =>
    exact fitsWidth_immOperand wm b1 b2
  case ldyImm | ldxImm | cpyImm | cpxImm =>
    exact fitsWidth_immOperand wx b1 b2
  all_goals rfl

/-- Every opcode byte is the opcode of an instruction: of the one its window decodes to. -/
theorem window_eq_opcode_decodeInstr (wm wx : Width) (win : Window) :
    win = { op := (decodeInstr wm wx win).opcode, b1 := win.b1, b2 := win.b2, b3 := win.b3 } := by
  rw [Machine.opcode_decodeInstr]

theorem operandBytes_decodeInstr_prefix (wm wx : Width) (win : Window) :
    (decodeInstr wm wx win).operandBytes wm wx <+: [win.b1, win.b2, win.b3] := by
  have h := operandBytes_decodeInstr_opcode wm wx (decodeInstr wm wx win) win.b1 win.b2 win.b3
  rwa [← window_eq_opcode_decodeInstr] at h

theorem immFits_decodeInstr (wm wx : Width) (win : Window) : (decodeInstr wm wx win).immFits wm wx = true := by
  have h := immFits_decodeInstr_opcode wm wx (decodeInstr wm wx win) win.b1 win.b2 win.b3
  rwa [← window_eq_opcode_decodeInstr] at h

/-! ## A stream of bytes -/

/-- The window the decoder looks at in a stream of bytes: past the end of the stream it holds 0. -/
def windowAt (op : Byte) (rest : List Byte) : Window :=
  { op := op, b1 := rest.getD 0 0x00#8, b2 := rest.getD 1 0x00#8, b3 := rest.getD 2 0x00#8 }

theorem opcode_decodeInstr_windowAt (wm wx : Width) (op : Byte) (rest : List Byte) :
    (decodeInstr wm wx (windowAt op rest)).opcode = op :=
  Machine.opcode_decodeInstr wm wx (windowAt op rest)

theorem windowAt_prefix (op : Byte) (rest : List Byte) :
    [(windowAt op rest).b1, (windowAt op rest).b2, (windowAt op rest).b3] <+: rest ++ List.replicate 3 0x00#8 := by
  match rest with
  | [] => exact List.prefix_rfl
  | [a] => exact ⟨[0x00#8], rfl⟩
  | [a, b] => exact ⟨[0x00#8, 0x00#8], rfl⟩
  | a :: b :: c :: rest => exact ⟨rest ++ List.replicate 3 0x00#8, rfl⟩

/-- The decoder answers exactly when the variant has the opcode and the stream is long enough; then it takes as many bytes as
the length function says. -/
theorem decode_cons_eq_ok_iff {v : Variant} {wm wx : Width} {op : Byte} {bytes rest : List Byte} {i : Instr} :
    decode v wm wx (op :: bytes) = .ok (i, rest) ↔
      opcodeAvailable v op = true ∧ instrLength wm wx op ≤ bytes.length + 1 ∧ decodeInstr wm wx (windowAt op bytes) = i ∧
        bytes.drop (instrLength wm wx op - 1) = rest := by
  rw [decode]
  split
  case isFalse hv => simp [hv]
  case isTrue hv =>
    split
    case isTrue hlen => simp [Nat.not_le.mpr hlen]
    case isFalse hlen => simp [hv, Nat.le_of_not_lt hlen, windowAt]

/-- The length of the operand bytes is that of R95 less the opcode byte. -/
theorem operandBytes_length (wm wx : Width) (i : Instr) :
    (i.operandBytes wm wx).length = instrLength wm wx i.opcode - 1 := by
  rw [← encode_length]
  rfl

/-- Only bytes of the stream enter the operand, for none of them lies past its end. -/
theorem operandBytes_decodeInstr_windowAt {wm wx : Width} {op : Byte} {bytes : List Byte}
    (hlen : instrLength wm wx op ≤ bytes.length + 1) :
    (decodeInstr wm wx (windowAt op bytes)).operandBytes wm wx = bytes.take (instrLength wm wx op - 1) := by
  have hcount := operandBytes_length wm wx (decodeInstr wm wx (windowAt op bytes))
  rw [opcode_decodeInstr_windowAt] at hcount
  have hpadded := (operandBytes_decodeInstr_prefix wm wx (windowAt op bytes)).trans (windowAt_prefix op bytes)
  have hprefix := List.prefix_of_prefix_length_le hpadded (List.prefix_append bytes _) (by omega)
  rw [← hcount]
  exact List.prefix_iff_eq_take.mp hprefix

/-! ## The length by width (R95) -/

theorem not_mem_immXOpcodes_of_mem_immMOpcodes {k : Nat} (h : k ∈ immMOpcodes) : k ∉ immXOpcodes := by
  revert k
  decide

theorem instrLength_accumulator (wx : Width) (op : Byte) :
    instrLength .w16 wx op = instrLength .w8 wx op + (if op.toNat ∈ immMOpcodes then 1 else 0) := by
  by_cases hm : op.toNat ∈ immMOpcodes <;> simp [instrLength, hm, extraByte]

theorem instrLength_index (wm : Width) (op : Byte) :
    instrLength wm .w16 op = instrLength wm .w8 op + (if op.toNat ∈ immXOpcodes then 1 else 0) := by
  by_cases hm : op.toNat ∈ immMOpcodes
  case pos => simp [instrLength, hm, not_mem_immXOpcodes_of_mem_immMOpcodes hm]
  case neg => by_cases hx : op.toNat ∈ immXOpcodes <;> simp [instrLength, hm, hx, extraByte]

end Sys2Proof

namespace Sys2Proof.Machine

/-! ## The refusal of an opcode (R106) -/

theorem State.fetch8_zero (s : State) : s.fetch8 0 = s.read .fetch (bankAddr s.pbr s.pc) := by
  rw [State.fetch8, State.fetchAddr, BitVec.add_zero]

theorem runInstruction_of_unavailable {s : State} (h : opcodeAvailable s.cfg.variant (s.fetch8 0) = false) :
    runInstruction s = .refused (.unavailableOpcode (s.fetch8 0)) := by
  have hdec : s.decodeNext = .error (.unavailable (s.fetch8 0)) := if_neg (Bool.eq_false_iff.mp h)
  rw [runInstruction, hdec]
  rfl

end Sys2Proof.Machine

/-! ## The statements of 30_encoding.md -/

namespace Sys2Proof.EncodingRules

open Sys2Proof Sys2Proof.Machine

/-- Settles O1: a well-formed instruction's bytes are as many as the decoder takes, and their window decodes to it whatever
follows. -/
theorem decodeOfEncodeIsTheInstruction : Obligations.DecodeOfEncodeIsTheInstruction := by
  intro v wm wx i rest hwf
  obtain ⟨havail, hfits⟩ := Bool.and_eq_true_iff.mp hwf
  have hstream : encode wm wx i ++ rest = i.opcode :: (i.operandBytes wm wx ++ rest) := rfl
  rw [hstream, decode_cons_eq_ok_iff]
  refine ⟨?available, ?longEnough, ?instruction, ?following⟩
  case available => rw [opcodeAvailable_opcode, havail]
  case longEnough =>
    have hcount := operandBytes_length wm wx i
    rw [List.length_append]
    omega
  case instruction => exact decodeInstr_operandBytes wm wx i hfits rest
  case following => rw [← operandBytes_length, List.drop_left]

/-- Settles O2: the operand bytes are those taken from the stream, and what is left is the rest. -/
theorem encodeOfDecodeIsTheBytes : Obligations.EncodeOfDecodeIsTheBytes := by
  intro v wm wx bytes rest i h
  cases bytes with
  | nil => cases h
  | cons op bytes =>
    obtain ⟨havail, hlen, rfl, rfl⟩ := decode_cons_eq_ok_iff.mp h
    constructor
    · rw [encode, opcode_decodeInstr_windowAt, operandBytes_decodeInstr_windowAt hlen, List.cons_append,
        List.take_append_drop]
    · rw [Instr.wellFormed, ← opcodeAvailable_opcode, opcode_decodeInstr_windowAt, havail, immFits_decodeInstr]
      rfl

/-- Settles O3: the length of an encoding, and the two widths it grows with. -/
theorem encodingHasTheLengthOfItsOpcode : Obligations.EncodingHasTheLengthOfItsOpcode :=
  fun wm wx i => ⟨encode_length wm wx i, instrLength_accumulator wx i.opcode, instrLength_index wm i.opcode⟩

/-- Settles O5: ten closed facts about the table. -/
theorem sampleWordsDecode : Obligations.SampleWordsDecode := by
  unfold Obligations.SampleWordsDecode
  decide

/-- Settles O53: the step is that of an instruction start, and its fetch meets the opcode; sampling the inputs changes neither
the variant nor the address of the opcode. -/
theorem unavailableOpcodeRefused : Obligations.UnavailableOpcodeRefused := by
  intro s hstart op hop
  have hfetch : State.fetch8 { s.withInputs false with run := .running } 0 = op := State.fetch8_zero _
  rw [step_of_startsInstruction hstart, runInstruction_of_unavailable (hfetch ▸ hop), hfetch]

end Sys2Proof.EncodingRules
end

section
/-! SUPPORT. Where direct page, stack relative, linear and indirect operands lie, the targets of branches and jumps, what
pushes and pulls leave, and the corner of R154; and the statements of 40_addressing_modes.md settled with them. -/

namespace Sys2Proof.Machine

variable {s t u : State} {w : Width} {e : Bool}

/-! ## Operand locations as numbers (R126 to R141, R149) -/

theorem State.dpn_toNat (s : State) (off : Word) : (s.dpn off).toNat = (s.d.toNat + off.toNat) % 65536 := by
  rw [State.dpn, b0_toNat, BitVec.toNat_add]

theorem loByte_eq_zero_iff (v : Word) : loByte v = 0x00#8 ↔ v.toNat % 256 = 0 := by
  rw [← BitVec.toNat_inj, loByte_toNat]
  rfl

/-- The page wrap replaces the low byte of D, which is 0 there. -/
theorem State.dpw_toNat (s : State) (off : Word) :
    (s.dpw off).toNat =
      if s.e = true ∧ s.d.toNat % 256 = 0 then s.d.toNat + off.toNat % 256 else (s.d.toNat + off.toNat) % 65536 := by
  simp only [State.dpw, loByte_eq_zero_iff]
  split
  case isTrue hpage =>
    rw [b0_toNat, word_toNat, hiByte_toNat, loByte_toNat]
    omega
  case isFalse => rw [b0_toNat, BitVec.toNat_add]

/-- The second byte in bank 0 lies at the next offset mod 2^16 (R121). -/
theorem memB0_isMem {o : Word} {n : Nat} (h : o.toNat = n % 65536) :
    (memB0 o).isMem (n % 65536) ((n + 1) % 65536) := by
  refine ⟨_, _, rfl, ?_, ?_⟩
  · rw [b0_toNat, h]
  · rw [b0_toNat, BitVec.toNat_add, h, BitVec.toNat_ofNat]
    omega

section Linear

variable (hv : s.cfg.variant = .m65816)

include hv

theorem State.memLin_bankAddr_isMem (bank : Byte) (off : Word) :
    (s.memLin (bankAddr bank off)).isMem (linear bank off % 2 ^ 24) ((linear bank off + 1) % 2 ^ 24) :=
  State.memLin_isMem hv _ _ (by rw [← bankAddr_toNat, Nat.mod_eq_of_lt (BitVec.isLt _)])

/-- The index carries into the bank (R137). -/
theorem State.memLin_index_isMem (a : Addr) (x : Word) :
    (s.memLin (a + asAddr x)).isMem ((a.toNat + x.toNat) % 2 ^ 24) ((a.toNat + x.toNat + 1) % 2 ^ 24) :=
  State.memLin_isMem hv _ _ (by rw [BitVec.toNat_add, asAddr_toNat])

theorem State.memLin_bankAddr_index_isMem (bank : Byte) (off x : Word) :
    (s.memLin (bankAddr bank off + asAddr x)).isMem ((linear bank off + x.toNat) % 2 ^ 24)
      ((linear bank off + x.toNat + 1) % 2 ^ 24) := by
  rw [← bankAddr_toNat]
  exact State.memLin_index_isMem hv _ x

end Linear

/-! ## Branches and jumps (R142 to R146) -/

/-- The displacement is signed (R142). -/
theorem State.rel8Target_eq (s : State) (disp : Byte) :
    s.rel8Target disp = BitVec.ofInt 16 ((s.pc.toNat : Int) + 2 + disp.toInt) := by
  rw [BitVec.ofInt_add, BitVec.ofInt_add, BitVec.ofInt_natCast, BitVec.ofNat_toNat, BitVec.setWidth_eq]
  rfl

theorem State.rel16Target_eq (s : State) (disp : Word) :
    s.rel16Target disp = BitVec.ofNat 16 (s.pc.toNat + 3 + disp.toNat) := by
  simp only [State.rel16Target, BitVec.ofNat_add, BitVec.ofNat_toNat, BitVec.setWidth_eq]

theorem State.goesTo_jump (s : State) (target : Word) : s.goesTo target (.next (s.jump target)) :=
  ⟨_, rfl, rfl, fun _ _ => rfl, rfl⟩

theorem State.goesToLong_jumpLong (s : State) (bank : Byte) (target : Word) :
    s.goesToLong bank target (.next (s.jumpLong bank target)) :=
  ⟨_, rfl, rfl, rfl, fun _ _ => rfl, rfl⟩

theorem branch_goesTo (s : State) (taken : Bool) (disp : Byte) :
    s.goesTo (if taken = true then s.rel8Target disp else s.pc + 2#16) (branch taken disp s) := by
  cases taken
  case true => exact s.goesTo_jump _
  case false => exact s.goesTo_jump (s.pc + 2#16)

theorem beq_eq_ite_not (b taken : Bool) : (b == taken) = if taken then b else !b := by
  cases taken
  case false => exact beq_false b
  case true => exact beq_true b

/-- A conditional branch tests the flag of its row, or its complement (R213 to R220). -/
theorem branchForms_exec {f : BranchForm} {disp : Byte} (h : f ∈ branchForms disp) (s : State) :
    f.form.encoded ∧ exec f.form.instr s = branch (s.flag f.flag == f.taken) disp s := by
  rw [beq_eq_ite_not]
  fin_cases h <;> exact ⟨⟨rfl, rfl⟩, rfl⟩

/-- The target of JMP (addr,X) and JSR (addr,X), with the index at its width (R145). -/
theorem State.absXIndTarget_eq (s : State) (a : Word) :
    s.absXIndTarget a =
      word (s.read .pointer (bankAddr s.pbr (a + lowBits s.wX s.x + 1#16)))
        (s.read .pointer (bankAddr s.pbr (a + lowBits s.wX s.x))) := by
  rw [← State.index_x]
  rfl

/-- JSR (addr,X) reads its pointer after the push, in the bank and with the index of before. -/
theorem State.jsrPushed_absXIndTarget (s : State) (a : Word) :
    s.jsrPushed.absXIndTarget a =
      word (s.jsrPushed.read .pointer (bankAddr s.pbr (a + lowBits s.wX s.x + 1#16)))
        (s.jsrPushed.read .pointer (bankAddr s.pbr (a + lowBits s.wX s.x))) := by
  rw [State.absXIndTarget_eq, State.jsrPushed, State.push16_pbr, State.push16_wX, State.push16_x]

/-! ## Tests before an instruction (R71, R154) -/

theorem State.meetsSensitiveDevice_eq_false {l : Loc} (h : ¬ s.onSensitiveDevice l w) :
    s.meetsSensitiveDevice l w = false := Bool.eq_false_iff.mpr (mt (s.meetsSensitiveDevice_iff l w).mp h)

theorem State.pushWraps_eq_false {k : Nat} (h : s.e = true → k ≤ (loByte s.s).toNat + 1) : s.pushWraps k = false := by
  cases he : s.e
  case false => rw [State.pushWraps, he, Bool.false_and]
  case true => rw [State.pushWraps, decide_eq_false (Nat.not_lt_of_le (h he)), Bool.and_false]

theorem State.pullWraps_eq_false {k : Nat} (h : s.e = true → (loByte s.s).toNat + k ≤ 255) : s.pullWraps k = false := by
  cases he : s.e
  case false => rw [State.pullWraps, he, Bool.false_and]
  case true => rw [State.pullWraps, decide_eq_false (Nat.not_lt_of_le (h he)), Bool.and_false]

theorem State.pushWraps_eq_true {k : Nat} (he : s.e = true) (h : (loByte s.s).toNat + 1 < k) : s.pushWraps k = true := by
  rw [State.pushWraps, he, decide_eq_true h, Bool.and_self]

theorem State.pullWraps_eq_true {k : Nat} (he : s.e = true) (h : 0xFF < (loByte s.s).toNat + k) :
    s.pullWraps k = true := by
  rw [State.pullWraps, he, decide_eq_true h, Bool.and_self]

/-- An instruction whose test fails is not refused for it. -/
theorem ite_refused_of_false {b : Bool} {r : Refusal} {out : Out} (h : b = false) :
    (if b = true then .refused r else out) = out := if_neg (Bool.eq_false_iff.mp h)

/-! ## Pushes (R150, R152) -/

theorem State.pushed_push8 (hw : Memory.wf s.mem = true) (b : Byte) : s.Pushed (s.push8 b) [b] :=
  (State.pushed_nil hw).push8 b

theorem State.pushed_push16 (hw : Memory.wf s.mem = true) (v : Word) : s.Pushed (s.push16 v) [hiByte v, loByte v] :=
  (State.pushed_nil hw).push16 v

theorem State.pushed_jslPushed (hw : Memory.wf s.mem = true) :
    s.Pushed s.jslPushed [s.pbr, hiByte (s.pc + 3#16), loByte (s.pc + 3#16)] :=
  (State.pushed_push8 hw s.pbr).push16 (s.pc + 3#16)

/-- A jump to any bank after the pushes of a call: PC, PBR, S and the bytes pushed alone change. -/
theorem State.Pushed.jumpLong_rest {bytes : List Byte} (h : s.Pushed t bytes) (bank : Byte) (target : Word) :
    { t.jumpLong bank target with s := s.s, pbr := s.pbr, pc := s.pc, mem := s.mem } = s := by
  rw [h.rest]
  rfl

theorem State.Pushed.jump_rest {bytes : List Byte} (h : s.Pushed t bytes) (target : Word) :
    { t.jump target with s := s.s, pc := s.pc, mem := s.mem } = s := by
  rw [h.rest]
  rfl

theorem push_pushesOnly (hw : Memory.wf s.mem = true) (w : Width) (v : Word) :
    s.pushesOnly (pushedBytes w v) 1 (push w v s) := ((State.pushed_nil hw).pushW w v).pushesOnly 1

theorem pushByte_pushesOnly (hw : Memory.wf s.mem = true) (b : Byte) : s.pushesOnly [b] 1 (pushByte b s) :=
  (State.pushed_push8 hw b).pushesOnly 1

/-- Outside the corner of R154 a 16-bit push is carried out. -/
theorem pushWord_pushesOnly (hw : Memory.wf s.mem = true) (hc : s.e = true → 1 ≤ (loByte s.s).toNat) (v : Word)
    (n : Nat) : s.pushesOnly [hiByte v, loByte v] n (pushWord v n s) := by
  rw [pushWord, ite_refused_of_false (State.pushWraps_two_eq_false hc)]
  exact (State.pushed_push16 hw v).pushesOnly n

/-! ## Pulls (R151, R153) -/

theorem loByte_zext (b : Byte) : loByte (zext b) = b := loByte_word _ _

theorem narrow_zext (b : Byte) : narrow .w8 (zext b) = zext b := by rw [narrow_w8, loByte_zext]

/-- A pull delivers a value of its width. -/
theorem State.narrow_stackWord (s : State) (w : Width) : narrow w (s.stackWord w) = s.stackWord w := by
  cases w
  case w8 => exact narrow_zext _
  case w16 => rfl

/-- n and z of a byte are written after a pull that left P alone. -/
theorem State.nz_setNZ_zext (hp : u.p = s.p) (b : Byte) :
    ((u.setNZ .w8 (zext b)).flag .n = b.getLsbD 7 ∧ (u.setNZ .w8 (zext b)).flag .z = decide (b = 0x00#8)) ∧
      s.keepsFlagsBut (u.setNZ .w8 (zext b)) [.n, .z] := by
  have nz := u.nz_setNZ_w8 (zext b)
  rw [narrow_zext, loByte_zext] at nz
  exact ⟨nz, (u.keepsFlagsBut_setNZ _ _).of_p hp⟩

/-- RTS, whole (R225). -/
theorem execRts_eq (s : State) :
    execRts s = .next (({ s with s := s.stackAbove 2 } : State).jump (s.stackWord .w16 + 1#16)) := by
  rw [execRts, s.pull16_eq]

/-- RTL, whole, outside the corner of R154 (R227). -/
theorem execRtl_eq (h : s.pullWraps 3 = false) :
    execRtl s = .next (({ s with s := s.stackAbove 3 } : State).jumpLong (s.stackByte 3) (s.stackWord .w16 + 1#16)) := by
  rw [execRtl, ite_refused_of_false h, s.pull16_eq]
  rfl

/-- PLB, whole, outside the corner of R154 (R272). -/
theorem execPlb_eq (h : s.pullWraps 1 = false) :
    execPlb s = .next ((({ s with s := s.stackAbove 1, dbr := s.stackByte 1 } : State).setNZ .w8
      (zext (s.stackByte 1))).advance 1) := by
  rw [execPlb, ite_refused_of_false h, s.pull8_eq]

/-- PLD, whole, outside the corner of R154 (R273). -/
theorem execPld_eq (h : s.pullWraps 2 = false) :
    execPld s = .next ((({ s with s := s.stackAbove 2, d := s.stackWord .w16 } : State).setNZ .w16
      (s.stackWord .w16)).advance 1) := by
  rw [execPld, ite_refused_of_false h, s.pull16_eq]

/-- PLA, whole (R271). -/
theorem execPla_eq (s : State) :
    execPla s = .next (((({ s with s := s.stackAbove s.wA.byteCount } : State).setAcc s.wA (s.stackWord s.wA)).setNZ s.wA
      (s.stackWord s.wA)).advance 1) := by
  rw [execPla, s.pullW_eq]

theorem State.setIdx_x_eq {v : Word} (hv : narrow w v = v) : s.setIdx .x w v = { s with x := v } := by
  rw [State.setIdx, if_pos rfl, if_neg (show IndexReg.x ≠ .y by decide), hv]

theorem State.setIdx_y_eq {v : Word} (hv : narrow w v = v) : s.setIdx .y w v = { s with y := v } := by
  rw [State.setIdx, if_pos rfl, if_neg (show IndexReg.y ≠ .x by decide), hv]

/-- PLX, whole (R275). -/
theorem execPlx_eq (s : State) :
    execPlx s = .next ((({ s with s := s.stackAbove s.wX.byteCount, x := s.stackWord s.wX } : State).setNZ s.wX
      (s.stackWord s.wX)).advance 1) := by
  rw [execPlx, pullIndex, s.pullW_eq, State.setIdx_x_eq (s.narrow_stackWord s.wX)]

/-- PLY, whole (R276). -/
theorem execPly_eq (s : State) :
    execPly s = .next ((({ s with s := s.stackAbove s.wX.byteCount, y := s.stackWord s.wX } : State).setNZ s.wX
      (s.stackWord s.wX)).advance 1) := by
  rw [execPly, pullIndex, s.pullW_eq, State.setIdx_y_eq (s.narrow_stackWord s.wX)]

/-- n and z of a value are written after a pull that left P alone. -/
theorem State.nzFrom_stackWord (hp : u.p = s.p) (w : Width) :
    (u.setNZ w (s.stackWord w)).nzFrom w (s.stackWord w) ∧
      s.keepsFlagsBut (u.setNZ w (s.stackWord w)) [.n, .z] :=
  ⟨u.nzFrom_setNZ (s.narrow_stackWord w), (u.keepsFlagsBut_setNZ _ _).of_p hp⟩

/-! ## Pulls after pushes (R150 to R153) -/

/-- S steps down and up again inside its page. -/
theorem stackValue_pred_succ {v : Word} (h : e = true → hiByte v = 0x01#8) :
    stackValue e (stackValue e (v - 1#16) + 1#16) = v := by
  cases e
  case false => exact BitVec.sub_add_cancel v 1#16
  case true =>
    have lo : loByte (word 0x01#8 (loByte (v - 1#16)) + 1#16) = loByte v := by
      apply BitVec.eq_of_toNat_eq
      simp only [loByte_toNat, BitVec.toNat_add, word_toNat, BitVec.toNat_sub, BitVec.toNat_ofNat]
      omega
    simp only [stackValue, if_true, lo]
    rw [← h rfl, word_hi_lo]

theorem stackValue_pred_ne (e : Bool) (v : Word) : stackValue e (v - 1#16) ≠ v := by
  intro h
  have low : loByte (stackValue e (v - 1#16)) = loByte (v - 1#16) := by
    cases e
    case false => rfl
    case true => exact loByte_word _ _
  have := congrArg BitVec.toNat (low.symm.trans (congrArg loByte h))
  simp only [loByte_toNat, BitVec.toNat_sub, BitVec.toNat_ofNat] at this
  omega

theorem b0_injective {o p : Word} (h : b0 o = b0 p) : o = p := by
  have := congrArg BitVec.toNat h
  rw [b0_toNat, b0_toNat] at this
  exact BitVec.eq_of_toNat_eq this

/-- S after pushes stays in page 1 in emulation mode. -/
theorem State.hiByte_stackBelow (h : s.e = true → hiByte s.s = 0x01#8) (n : Nat) (he : s.e = true) :
    hiByte (s.stackBelow n) = 0x01#8 := by
  cases n with
  | zero => exact h he
  | succ n =>
    rw [State.stackBelow, stackValue, if_pos he]
    exact hiByte_word _ _

/-- Each pull takes S back over one push. -/
theorem State.stackAbove_of_stackBelow (hs : s.e = true → hiByte s.s = 0x01#8) (he : t.e = s.e) (k : Nat) {n : Nat}
    (ht : t.s = s.stackBelow (n + k)) : t.stackAbove k = s.stackBelow n := by
  induction k generalizing n with
  | zero => exact ht
  | succ k ih =>
    have below : t.stackAbove k = s.stackBelow (n + 1) := ih (by rw [ht, Nat.add_right_comm, Nat.add_assoc])
    rw [State.stackAbove, below, he]
    exact stackValue_pred_succ (State.hiByte_stackBelow hs n)

theorem State.stackAbove_push8 (hs : s.e = true → hiByte s.s = 0x01#8) (b : Byte) : (s.push8 b).stackAbove 1 = s.s :=
  State.stackAbove_of_stackBelow (t := s.push8 b) (n := 0) hs rfl 1 (s.push8_s b)

theorem State.stackAbove_push16 (hs : s.e = true → hiByte s.s = 0x01#8) (v : Word) : (s.push16 v).stackAbove 2 = s.s :=
  State.stackAbove_of_stackBelow (t := s.push16 v) (n := 0) hs rfl 2 (s.push16_s v)

/-- The byte pushed last is the first pulled. -/
theorem State.stackByte_push8 (hs : s.e = true → hiByte s.s = 0x01#8) (hw : Memory.wf s.mem = true)
    (hram : kindAt s.cfg (b0 s.s) = .ram) (b : Byte) : (s.push8 b).stackByte 1 = b := by
  rw [State.stackByte, State.stackAbove_push8 hs, (State.pushed_push8 hw b).stores, if_pos hram]
  exact if_pos rfl

/-- The byte pushed before the last is the second pulled: the last one went to another address. -/
theorem State.stackByte_two_push16 (hs : s.e = true → hiByte s.s = 0x01#8) (hw : Memory.wf s.mem = true)
    (hram : kindAt s.cfg (b0 s.s) = .ram) (v : Word) : (s.push16 v).stackByte 2 = hiByte v := by
  have apart : b0 s.s ≠ b0 (s.stackBelow 1) := fun h => stackValue_pred_ne s.e s.s (b0_injective h).symm
  rw [State.stackByte, State.stackAbove_push16 hs, (State.pushed_push16 hw v).stores, if_pos hram]
  exact (if_neg apart).trans (if_pos rfl)

end Sys2Proof.Machine

/-! ## The statements of 40_addressing_modes.md -/

namespace Sys2Proof.AddressingRules

open Sys2Proof Sys2Proof.Machine

/-- Settles O9: DPn and DPw as numbers; the locations are DPw of the operand byte plus the index, and S plus the operand
byte. -/
theorem directPageAndStackLocations : Obligations.DirectPageAndStackLocations := by
  intro s off o
  rw [← State.index_x, ← State.index_y]
  refine ⟨s.dpn_toNat off, s.dpw_toNat off, rfl, rfl, rfl, memB0_isMem ?_⟩
  rw [BitVec.toNat_add, zext_toNat]

/-- Settles O10: each location is linear, at `bank:offset` or at a 24-bit address, with or without an index. -/
theorem linearLocations65816 : Obligations.LinearLocations65816 := by
  intro s a l o hv xw x y ptr far sp at2
  have direct (bank : Byte) (off : Word) := State.memLin_bankAddr_isMem hv bank off
  have indexed (bank : Byte) (off i : Word) := State.memLin_bankAddr_index_isMem hv bank off i
  simp only [at2, Operand.loc, State.index_x, State.index_y]
  exact ⟨direct _ _, indexed _ _ _, indexed _ _ _, State.memLin_isMem hv l _ (Nat.mod_eq_of_lt l.isLt).symm,
    State.memLin_index_isMem hv l _, direct _ _, direct _ _, indexed _ _ _, direct _ _, indexed _ _ _, indexed _ _ _⟩

/-- Settles O26: the eight conditional branches are one branch on the flag of their row; BRA is that branch always taken. -/
theorem branches : Obligations.Branches := by
  intro s disp far target
  have htarget : s.rel8Target disp = target := s.rel8Target_eq disp
  refine ⟨fun f hf => ?conditional, ⟨rfl, rfl⟩, ?bra, ⟨rfl, rfl⟩, ?brl⟩
  case conditional =>
    obtain ⟨henc, hex⟩ := branchForms_exec hf s
    have taken := branch_goesTo s (s.flag f.flag == f.taken) disp
    simp only [beq_iff_eq, htarget] at taken
    exact ⟨henc, hex ▸ taken⟩
  case bra => exact htarget ▸ s.goesTo_jump (s.rel8Target disp)
  case brl => exact s.rel16Target_eq far ▸ s.goesTo_jump (s.rel16Target far)

/-- Settles O27: five jumps, to an operand or to a pointer read from memory. -/
theorem jumps : Obligations.Jumps := by
  intro s a l high p
  refine ⟨⟨rfl, rfl⟩, s.goesTo_jump a, ⟨rfl, rfl⟩, s.goesTo_jump _, ⟨rfl, rfl⟩, fun hd => ?xInd, ⟨rfl, rfl⟩,
    s.goesToLong_jumpLong _ _, ⟨rfl, rfl⟩, s.goesToLong_jumpLong _ _⟩
  have hex : exec (.jmpXInd a) s = .next (s.jump (s.absXIndTarget a)) :=
    ite_refused_of_false (State.meetsSensitiveDevice_eq_false hd)
  rw [hex, s.absXIndTarget_eq]
  exact s.goesTo_jump _

/-- Settles O28: JSR is a 16-bit push, RTS a 16-bit pull, then a jump. -/
theorem callAndReturn : Obligations.CallAndReturn := by
  intro s a hw
  refine ⟨⟨⟨rfl, rfl⟩, ?jsr⟩, ⟨rfl, rfl⟩, ?rts⟩
  case jsr =>
    have pushed := State.pushed_push16 hw (s.pc + 2#16)
    exact ⟨_, rfl, rfl, pushed.sp, pushed.stores, pushed.jump_rest a⟩
  case rts => exact ⟨_, execRts_eq s, rfl, rfl, fun _ _ => rfl, rfl⟩

/-- Settles O29: outside the corner of R154 the three are carried out: pushes or pulls, then a jump. -/
theorem longCallAndReturn : Obligations.LongCallAndReturn := by
  intro s a l hw
  refine ⟨fun hc => ⟨⟨rfl, rfl⟩, ?jsl⟩, fun hc => ⟨⟨rfl, rfl⟩, ?rtl⟩, fun hc hd => ⟨⟨rfl, rfl⟩, ?jsrXInd⟩⟩
  case jsl =>
    have pushed := State.pushed_jslPushed hw
    have inPage : s.pushWraps 3 = false := State.pushWraps_eq_false fun he => Nat.succ_le_succ (hc he)
    exact ⟨_, ite_refused_of_false inPage, rfl, rfl, pushed.sp, pushed.stores, pushed.jumpLong_rest _ _⟩
  case rtl =>
    exact ⟨_, execRtl_eq (State.pullWraps_eq_false hc), rfl, rfl, rfl, fun _ _ => rfl, rfl⟩
  case jsrXInd =>
    have pushed := State.pushed_push16 hw (s.pc + 2#16)
    have hex : exec (.jsrXInd a) s = .next (s.jsrPushed.jump (s.jsrPushed.absXIndTarget a)) :=
      (ite_refused_of_false (State.pushWraps_two_eq_false hc)).trans
        (ite_refused_of_false (State.meetsSensitiveDevice_eq_false hd))
    exact ⟨_, hex, pushed.stores, pushed.sp, s.jsrPushed_absXIndTarget a, pushed.jump_rest _⟩

/-- Settles O36: three pushes at a width, three of one byte. -/
theorem pushes : Obligations.Pushes := fun _ hw =>
  ⟨⟨rfl, rfl⟩, push_pushesOnly hw _ _, ⟨rfl, rfl⟩, push_pushesOnly hw _ _, ⟨rfl, rfl⟩, push_pushesOnly hw _ _,
    ⟨rfl, rfl⟩, pushByte_pushesOnly hw _, ⟨rfl, rfl⟩, pushByte_pushesOnly hw _, ⟨rfl, rfl⟩, pushByte_pushesOnly hw _⟩

/-- Settles O37: the four differ in the word pushed and in their length alone. -/
theorem sixteenBitPushes : Obligations.SixteenBitPushes := by
  intro s v o hw hc q d0 d1
  have pei := pushWord_pushesOnly hw hc (word d1 d0) 2
  rw [hiByte_word, loByte_word] at pei
  exact ⟨⟨rfl, rfl⟩, pushWord_pushesOnly hw hc v 3, ⟨rfl, rfl⟩, pei, ⟨rfl, rfl⟩, pushWord_pushesOnly hw hc q 3,
    ⟨rfl, rfl⟩, pushWord_pushesOnly hw hc s.d 1⟩

/-- Settles O38: a pull at a width, then a register load with n and z of the value. -/
theorem pullsAtTheirWidths : Obligations.PullsAtTheirWidths := by
  intro s v
  refine ⟨⟨⟨rfl, rfl⟩, ?pla⟩, ⟨⟨rfl, rfl⟩, ?plx⟩, ⟨rfl, rfl⟩, ?ply⟩
  case pla =>
    obtain ⟨hnz, hkept⟩ := State.nzFrom_stackWord (s := s)
      (u := ({ s with s := s.stackAbove s.wA.byteCount } : State).setAcc s.wA (s.stackWord s.wA)) rfl s.wA
    exact ⟨_, execPla_eq s, rfl, hnz, hkept, rfl, rfl, fun _ _ => rfl, rfl⟩
  case plx =>
    obtain ⟨hnz, hkept⟩ := State.nzFrom_stackWord (s := s)
      (u := { s with s := s.stackAbove s.wX.byteCount, x := v }) rfl s.wX
    exact ⟨_, execPlx_eq s, rfl, hnz, hkept, rfl, rfl, fun _ _ => rfl, rfl⟩
  case ply =>
    obtain ⟨hnz, hkept⟩ := State.nzFrom_stackWord (s := s)
      (u := { s with s := s.stackAbove s.wX.byteCount, y := v }) rfl s.wX
    exact ⟨_, execPly_eq s, rfl, hnz, hkept, rfl, rfl, fun _ _ => rfl, rfl⟩

/-- Settles O39: PLB and PLD are pulls with n and z of the value, PLP is a pull and SetP. -/
theorem pullsOfSpecialRegisters : Obligations.PullsOfSpecialRegisters := by
  intro s
  refine ⟨fun hc => ⟨⟨rfl, rfl⟩, ?plb⟩, fun hc => ⟨⟨rfl, rfl⟩, ?pld⟩, ⟨rfl, rfl⟩, ?plp⟩
  case plb =>
    obtain ⟨⟨hn, hz⟩, hkept⟩ := State.nz_setNZ_zext (s := s)
      (u := { s with s := s.stackAbove 1, dbr := s.stackByte 1 }) rfl (s.stackByte 1)
    exact ⟨_, execPlb_eq (State.pullWraps_eq_false hc), rfl, hn, hz, hkept, rfl, rfl, fun _ _ => rfl, rfl⟩
  case pld =>
    obtain ⟨hnz, hkept⟩ := State.nzFrom_stackWord (s := s)
      (u := { s with s := s.stackAbove 2, d := s.stackWord .w16 }) rfl .w16
    exact ⟨_, execPld_eq (State.pullWraps_eq_false hc), rfl, hnz, hkept, rfl, rfl, fun _ _ => rfl, rfl⟩
  case plp =>
    obtain ⟨hp, hx, hy, hpc, hmem, -⟩ := State.setP_advance { s with s := s.stackAbove 1 } (s.stackByte 1) 1
    exact ⟨_, rfl, hp, hx, hy, rfl, hpc, hmem, rfl⟩

/-- Settles O40: the addresses pulled from are those pushed to, and two pushes store at two addresses. -/
theorem pullsUndoPushes : Obligations.PullsUndoPushes := by
  intro s v hs hw h0 h1
  have high := State.stackByte_two_push16 hs hw h0 v
  have low : (s.push16 v).stackByte 1 = loByte v :=
    State.stackByte_push8 (s := s.push8 (hiByte v)) (State.hiByte_stackBelow hs 1) (s.wf_push8 _ hw) h1 _
  have value : (s.push16 v).pull16.1 = v := by rw [State.pull16_eq, State.stackWord, high, low, word_hi_lo]
  exact ⟨value, State.stackAbove_push16 hs v, State.stackByte_push8 hs hw h0 (loByte v),
    State.stackAbove_push8 hs (loByte v)⟩

/-- Settles O30: each instruction tests its corner first. -/
theorem emulationStackCornerRefused : Obligations.EmulationStackCornerRefused := by
  intro s a o l he
  refine ⟨fun hs i hi => ?pushes, fun hs => ?jsl, fun hs => ?plb, fun hs => ?pld, fun hs => ?rtl⟩
  case pushes =>
    have wraps : s.pushWraps 2 = true := State.pushWraps_eq_true he (Nat.succ_lt_succ hs)
    fin_cases hi <;> exact if_pos wraps
  case jsl => exact if_pos (State.pushWraps_eq_true he (Nat.succ_lt_succ hs))
  case plb | pld | rtl => exact if_pos (State.pullWraps_eq_true he hs)

end Sys2Proof.AddressingRules
end

section
/-! SUPPORT. What an addition or subtraction leaves in the machine, the numbers that decimal digits stand for, and the signs of
the binary results; and the statements of 41_arithmetic.md settled with them. -/

namespace Sys2Proof.Machine

variable {s : State} {o : Operand} {w : Width} {v a m : Word} {c : Bool}

/-! ## What ADC and SBC leave (R161, R169) -/

/-- The state that ADC and SBC leave with the outcome `r`. -/
def State.afterAdd (s : State) (o : Operand) (r : AddOut) : State :=
  ((s.setAcc s.wA r.r).setAddFlags r).advance (o.len s)

theorem addResult_of_not (h : ¬ o.onIndexedDevice s s.wA) (r : AddOut) : addResult o r s = .next (s.afterAdd o r) :=
  accessOnce_of_not h _

theorem adc_of_not (h : ¬ o.onIndexedDevice s s.wA) :
    adc o s = .next (s.afterAdd o (s.adcOut s.wA (s.acc s.wA) (s.readData (o.loc s) s.wA))) :=
  addResult_of_not h _

theorem sbc_of_not (h : ¬ o.onIndexedDevice s s.wA) :
    sbc o s = .next (s.afterAdd o (s.sbcOut s.wA (s.acc s.wA) (s.readData (o.loc s) s.wA))) :=
  addResult_of_not h _

theorem State.afterAdd_c (s : State) (o : Operand) (r : AddOut) : (s.afterAdd o r).c = mergeLow s.wA s.c r.r := rfl

theorem State.flag_afterAdd (s : State) (o : Operand) (r : AddOut) (g : Flag) :
    (s.afterAdd o r).flag g =
      if g = .c then r.c else if g = .z then r.z else if g = .v then r.v else if g = .n then r.n else s.flag g :=
  (s.setAcc s.wA r.r).flag_setAddFlags r g

/-- n and z follow the result wherever the outcome took them from it. -/
theorem State.nzFrom_afterAdd (s : State) (o : Operand) {r : AddOut} (hn : r.n = msb w r.r)
    (hz : r.z = (r.r == 0#16)) : (s.afterAdd o r).nzFrom w r.r :=
  ⟨(s.flag_afterAdd o r .n).trans (hn.trans (msb_eq w r.r)), (s.flag_afterAdd o r .z).trans hz⟩

/-- At 8 bits B is kept. -/
theorem State.hiByte_afterAdd (h : s.wA = .w8) (r : AddOut) : hiByte (s.afterAdd o r).c = hiByte s.c := by
  rw [State.afterAdd_c, h]
  exact hiByte_word _ _

/-- The frame of ADC and SBC: the accumulator, n, v, z, c and PC are all they write. -/
theorem State.afterAdd_frame (s : State) (o : Operand) (r : AddOut) :
    s.keepsFlagsBut (s.afterAdd o r) [.n, .v, .z, .c] ∧ (s.afterAdd o r).pc = s.pc + BitVec.ofNat 16 (o.len s) ∧
      s.keepsMemory (s.afterAdd o r) ∧ { s.afterAdd o r with c := s.c, p := s.p, pc := s.pc, mem := s.mem } = s := by
  refine ⟨fun g hg => ?kept, rfl, State.keepsMemory_of_eq rfl rfl rfl, rfl⟩
  simp only [List.mem_cons, List.not_mem_nil, or_false, not_or] at hg
  obtain ⟨hn, hv, hz, hc⟩ := hg
  rw [State.flag_afterAdd, if_neg hc, if_neg hz, if_neg hv, if_neg hn]

/-! ## Binary outcomes (R161, R169) -/

theorem bitVal_eq_toNat (b : Bool) : bitVal b = b.toNat := by cases b <;> rfl

theorem State.adcOut_binary (h : s.flag .d = false) (w : Width) (a m : Word) :
    s.adcOut w a m = adcBinary w a m (s.flag .c) := by
  rw [State.adcOut, h]
  rfl

theorem State.sbcOut_binary (h : s.flag .d = false) (w : Width) (a m : Word) :
    s.sbcOut w a m = sbcBinary w a m (s.flag .c) := by
  rw [State.sbcOut, h]
  rfl

theorem adcBinary_r (w : Width) (a m : Word) (c : Bool) :
    (adcBinary w a m c).r = BitVec.ofNat 16 ((a.toNat + m.toNat + c.toNat) % 2 ^ w.bits) := by
  rw [← bitVal_eq_toNat]
  rfl

theorem adcBinary_c (w : Width) (a m : Word) (c : Bool) :
    (adcBinary w a m c).c = decide (2 ^ w.bits ≤ a.toNat + m.toNat + c.toNat) := by
  rw [← bitVal_eq_toNat]
  rfl

theorem adcBinary_v (w : Width) (a m : Word) (c : Bool) :
    (adcBinary w a m c).v =
      ((a ^^^ (adcBinary w a m c).r) &&& (m ^^^ (adcBinary w a m c).r)).getLsbD (w.bits - 1) := msb_eq _ _

theorem sbcBinary_r (w : Width) (a m : Word) (c : Bool) :
    (sbcBinary w a m c).r = BitVec.ofInt 16 (((a.toNat : Int) - m.toNat - (1 - c.toNat)) % 2 ^ w.bits) := by
  rw [← bitVal_eq_toNat]
  rfl

theorem sbcBinary_c (w : Width) (a m : Word) (c : Bool) :
    (sbcBinary w a m c).c = decide (0 ≤ (a.toNat : Int) - m.toNat - (1 - c.toNat)) := by
  rw [← bitVal_eq_toNat]
  rfl

theorem sbcBinary_v (w : Width) (a m : Word) (c : Bool) :
    (sbcBinary w a m c).v = ((a ^^^ m) &&& (a ^^^ (sbcBinary w a m c).r)).getLsbD (w.bits - 1) := msb_eq _ _

theorem State.nzFrom_afterAdd_adcBinary (s : State) (o : Operand) (w : Width) (a m : Word) (c : Bool) :
    (s.afterAdd o (adcBinary w a m c)).nzFrom w (adcBinary w a m c).r := s.nzFrom_afterAdd o rfl rfl

theorem State.nzFrom_afterAdd_sbcBinary (s : State) (o : Operand) (w : Width) (a m : Word) (c : Bool) :
    (s.afterAdd o (sbcBinary w a m c)).nzFrom w (sbcBinary w a m c).r := s.nzFrom_afterAdd o rfl rfl

/-! ## Decimal outcomes (R162, R170) -/

theorem State.adcOut_decimal (h : s.flag .d = true) (ha : validBcd w a = true) (hm : validBcd w m = true) :
    s.adcOut w a m =
      decimalOut s.cfg.variant s.time w (bcd w ((dec w a + dec w m + (s.flag .c).toNat) % w.decimalBase))
        (decide (w.decimalBase ≤ dec w a + dec w m + (s.flag .c).toNat)) := by
  rw [State.adcOut, if_pos h, adcDecimal, if_pos ⟨ha, hm⟩, ← bitVal_eq_toNat]

theorem State.sbcOut_decimal (h : s.flag .d = true) (ha : validBcd w a = true) (hm : validBcd w m = true) :
    s.sbcOut w a m =
      decimalOut s.cfg.variant s.time w
        (bcd w (((dec w a : Int) - dec w m - (1 - (s.flag .c).toNat)) % w.decimalBase).toNat)
        (decide (0 ≤ (dec w a : Int) - dec w m - (1 - (s.flag .c).toNat))) := by
  rw [State.sbcOut, if_pos h, sbcDecimal, if_pos ⟨ha, hm⟩, ← bitVal_eq_toNat]

/-- What a decimal outcome on valid operands fixes: the result, the carry, and but for the 6502 n and z. -/
theorem State.afterAdd_decimalOut (s : State) (o : Operand) (r : Word) (c : Bool) :
    let t := s.afterAdd o (decimalOut s.cfg.variant s.time s.wA r c)
    t.c = mergeLow s.wA s.c r ∧ t.flag .c = c ∧ (s.cfg.variant ≠ .m6502 → t.nzFrom s.wA r) :=
  ⟨rfl, s.flag_afterAdd o _ .c, fun hv => s.nzFrom_afterAdd o (if_neg hv) (if_neg hv)⟩

/-! ## Numbers from digits (R162) -/

/-- The number whose digit k in base `b` is `f k`, for k below `n`. -/
def placeValue (b n : Nat) (f : Nat → Nat) : Nat := ((List.range n).map fun k => f k * b ^ k).sum

theorem dec_eq_placeValue (w : Width) (v : Word) : dec w v = placeValue 10 w.digits (digit v) := rfl

theorem placeValue_succ (b n : Nat) (f : Nat → Nat) : placeValue b (n + 1) f = placeValue b n f + f n * b ^ n := by
  simp [placeValue, List.range_succ]

theorem placeValue_congr {b n : Nat} {f g : Nat → Nat} (h : ∀ k < n, f k = g k) :
    placeValue b n f = placeValue b n g := by
  unfold placeValue
  exact congrArg List.sum (List.map_congr_left fun k hk => by rw [h k (List.mem_range.mp hk)])

/-- Putting the digits of a number together gives its low part. -/
theorem placeValue_digits (b n x : Nat) : placeValue b n (fun k => x / b ^ k % b) = x % b ^ n := by
  induction n with
  | zero => simp [placeValue, Nat.mod_one]
  | succ n ih => rw [placeValue_succ, ih, Nat.mod_pow_succ, Nat.mul_comm (x / b ^ n % b)]

theorem placeValue_lt {b n : Nat} {f : Nat → Nat} (h : ∀ k < n, f k < b) : placeValue b n f < b ^ n := by
  induction n with
  | zero => simp [placeValue]
  | succ n ih =>
    have low := ih fun k hk => h k (Nat.lt_succ_of_lt hk)
    rw [placeValue_succ]
    calc placeValue b n f + f n * b ^ n < b ^ n + f n * b ^ n := Nat.add_lt_add_right low _
      _ = (f n + 1) * b ^ n := by ring
      _ ≤ b * b ^ n := Nat.mul_le_mul_right _ (h n (Nat.lt_succ_self n))
      _ = b ^ (n + 1) := (Nat.pow_succ').symm

/-- The digits of a number put together from digits are these digits. -/
theorem digit_placeValue {b n : Nat} {f : Nat → Nat} (h : ∀ k < n, f k < b) {k : Nat} (hk : k < n) :
    placeValue b n f / b ^ k % b = f k := by
  induction n with
  | zero => exact absurd hk (Nat.not_lt_zero k)
  | succ n ih =>
    have hlow : ∀ k < n, f k < b := fun k hk => h k (Nat.lt_succ_of_lt hk)
    have hb : 0 < b := Nat.zero_lt_of_lt (h k hk)
    rw [placeValue_succ]
    rcases Nat.lt_succ_iff_lt_or_eq.mp hk with hk | rfl
    · have split : f n * b ^ n = f n * b ^ (n - k - 1) * b * b ^ k := by
        rw [Nat.mul_assoc _ b, ← Nat.pow_succ', Nat.mul_assoc, ← Nat.pow_add]
        congr 2
        omega
      rw [split, Nat.add_mul_div_right _ _ (Nat.pow_pos hb), Nat.add_mul_mod_self_right, ih hlow hk]
    · rw [Nat.add_mul_div_right _ _ (Nat.pow_pos hb), Nat.div_eq_of_lt (placeValue_lt hlow), Nat.zero_add,
        Nat.mod_eq_of_lt (h k hk)]

/-! ## Binary-coded decimal (R162) -/

theorem sixteen_pow_digits (w : Width) : 16 ^ w.digits = 2 ^ w.bits := by cases w <;> rfl

theorem validBcd_iff (w : Width) (v : Word) : validBcd w v = true ↔ ∀ k < w.digits, digit v k < 10 := by
  simp [validBcd, Nat.lt_succ_iff]

theorem decimalDigit_lt (n k : Nat) : n / 10 ^ k % 10 < 10 := Nat.mod_lt _ (by decide)

/-- A decimal digit is a digit at base 16. -/
theorem decimalDigit_lt_sixteen (n k : Nat) : n / 10 ^ k % 10 < 16 := Nat.lt_trans (decimalDigit_lt n k) (by decide)

/-- The BCD form of a number takes no more than the bits of its width. -/
theorem placeValue_decimalDigits_lt (w : Width) (n : Nat) :
    placeValue 16 w.digits (fun k => n / 10 ^ k % 10) < 2 ^ w.bits := by
  rw [← sixteen_pow_digits]
  exact placeValue_lt fun k _ => decimalDigit_lt_sixteen n k

theorem bcd_toNat (w : Width) (n : Nat) : (bcd w n).toNat = placeValue 16 w.digits fun k => n / 10 ^ k % 10 :=
  Nat.mod_eq_of_lt (Nat.lt_of_lt_of_le (placeValue_decimalDigits_lt w n) (width_bits_le w))

theorem narrow_bcd (w : Width) (n : Nat) : narrow w (bcd w n) = bcd w n :=
  narrow_of_lt w _ (bcd_toNat w n ▸ placeValue_decimalDigits_lt w n)

theorem digit_bcd {n k : Nat} (hk : k < w.digits) : digit (bcd w n) k = n / 10 ^ k % 10 := by
  rw [digit, bcd_toNat]
  exact digit_placeValue (fun k _ => decimalDigit_lt_sixteen n k) hk

theorem validBcd_bcd (w : Width) (n : Nat) : validBcd w (bcd w n) = true :=
  (validBcd_iff w _).mpr fun k hk => digit_bcd hk ▸ decimalDigit_lt n k

theorem dec_bcd (w : Width) (n : Nat) : dec w (bcd w n) = n % w.decimalBase := by
  rw [dec_eq_placeValue, placeValue_congr fun k hk => digit_bcd hk]
  exact placeValue_digits 10 w.digits n

theorem dec_lt (h : validBcd w v = true) : dec w v < w.decimalBase := placeValue_lt ((validBcd_iff w v).mp h)

theorem bcd_dec (h : validBcd w v = true) (hv : narrow w v = v) : bcd w (dec w v) = v := by
  apply BitVec.eq_of_toNat_eq
  have digits : ∀ k < w.digits, dec w v / 10 ^ k % 10 = digit v k :=
    fun k hk => digit_placeValue ((validBcd_iff w v).mp h) hk
  calc (bcd w (dec w v)).toNat = placeValue 16 w.digits (digit v) := (bcd_toNat w _).trans (placeValue_congr digits)
    _ = v.toNat % 16 ^ w.digits := placeValue_digits 16 w.digits v.toNat
    _ = v.toNat := by rw [sixteen_pow_digits, ← narrow_toNat, hv]

/-! ## Signs and overflow (R161, R169) -/

/-- The top bit of a value of its width is its sign. -/
theorem getLsbD_top_iff (h : narrow w v = v) : v.getLsbD (w.bits - 1) = true ↔ 2 ^ (w.bits - 1) ≤ v.toNat := by
  have hlt := toNat_lt_of_narrow h
  rw [BitVec.getLsbD, Nat.testBit_eq_decide_div_mod_eq, decide_eq_true_eq]
  cases w <;> (simp only [Width.bits] at hlt ⊢; omega)

/-- The signed value is the value itself in the lower half of its range, 2^w less in the upper half. -/
theorem signedValue_cases (h : narrow w v = v) :
    (v.toNat < 2 ^ (w.bits - 1) ∧ signedValue w v = v.toNat) ∨
      (2 ^ (w.bits - 1) ≤ v.toNat ∧ signedValue w v = v.toNat - 2 ^ w.bits) := by
  unfold signedValue
  split
  case isTrue hneg => exact .inr ⟨(getLsbD_top_iff h).mp hneg, rfl⟩
  case isFalse hpos => exact .inl ⟨Nat.lt_of_not_le (mt (getLsbD_top_iff h).mpr hpos), rfl⟩

/-- A bit of the overflow expressions of R161 and R169: both pairs differ in it. -/
theorem getLsbD_xor_and_xor (x y p q : Word) (i : Nat) :
    ((x ^^^ y) &&& (p ^^^ q)).getLsbD i = true ↔
      ¬ (x.getLsbD i = true ↔ y.getLsbD i = true) ∧ ¬ (p.getLsbD i = true ↔ q.getLsbD i = true) := by
  rw [BitVec.getLsbD_and, BitVec.getLsbD_xor, BitVec.getLsbD_xor, Bool.and_eq_true, bne_iff_ne, bne_iff_ne]
  exact and_congr (not_congr Bool.eq_iff_iff) (not_congr Bool.eq_iff_iff)

theorem adcBinary_r_toNat (w : Width) (a m : Word) (c : Bool) :
    (adcBinary w a m c).r.toNat = (a.toNat + m.toNat + c.toNat) % 2 ^ w.bits := by
  rw [adcBinary_r, BitVec.toNat_ofNat]
  cases w <;> (simp only [Width.bits]; omega)

theorem sbcBinary_r_toNat (w : Width) (a m : Word) (c : Bool) :
    ((sbcBinary w a m c).r.toNat : Int) = ((a.toNat : Int) - m.toNat - (1 - c.toNat)) % 2 ^ w.bits := by
  rw [sbcBinary_r, BitVec.toNat_ofInt]
  cases w <;> (simp only [Width.bits]; omega)

theorem narrow_adcBinary_r (w : Width) (a m : Word) (c : Bool) :
    narrow w (adcBinary w a m c).r = (adcBinary w a m c).r := by
  rw [adcBinary_r]
  exact narrow_ofNat_mod w _

theorem narrow_sbcBinary_r (w : Width) (a m : Word) (c : Bool) :
    narrow w (sbcBinary w a m c).r = (sbcBinary w a m c).r := by
  apply narrow_of_lt
  have hr := sbcBinary_r_toNat w a m c
  cases w <;> (simp only [Width.bits] at hr ⊢; omega)

/-- v of a sum: the operands have one sign and the result the other. -/
theorem adcBinary_v_iff (ha : narrow w a = a) (hm : narrow w m = m) :
    (adcBinary w a m c).v = true ↔
      ¬ (2 ^ (w.bits - 1) ≤ a.toNat ↔ 2 ^ (w.bits - 1) ≤ (adcBinary w a m c).r.toNat) ∧
        ¬ (2 ^ (w.bits - 1) ≤ m.toNat ↔ 2 ^ (w.bits - 1) ≤ (adcBinary w a m c).r.toNat) := by
  rw [adcBinary_v, getLsbD_xor_and_xor, getLsbD_top_iff ha, getLsbD_top_iff hm,
    getLsbD_top_iff (narrow_adcBinary_r w a m c)]

/-- v of a difference: the operands differ in sign and the result has not the sign of the first. -/
theorem sbcBinary_v_iff (ha : narrow w a = a) (hm : narrow w m = m) :
    (sbcBinary w a m c).v = true ↔
      ¬ (2 ^ (w.bits - 1) ≤ a.toNat ↔ 2 ^ (w.bits - 1) ≤ m.toNat) ∧
        ¬ (2 ^ (w.bits - 1) ≤ a.toNat ↔ 2 ^ (w.bits - 1) ≤ (sbcBinary w a m c).r.toNat) := by
  rw [sbcBinary_v, getLsbD_xor_and_xor, getLsbD_top_iff ha, getLsbD_top_iff hm,
    getLsbD_top_iff (narrow_sbcBinary_r w a m c)]

/-- The halves of their ranges in which the operands and the result lie decide the signed values, and the result is the exact
sum less 2^w or 0. -/
theorem adcBinary_v_iff_range (ha : narrow w a = a) (hm : narrow w m = m) :
    (adcBinary w a m c).v = true ↔
      ¬ (-(2 : Int) ^ (w.bits - 1) ≤ signedValue w a + signedValue w m + c.toNat ∧
        signedValue w a + signedValue w m + c.toNat < (2 : Int) ^ (w.bits - 1)) := by
  have hsa := signedValue_cases ha
  have hsm := signedValue_cases hm
  have hlta := toNat_lt_of_narrow ha
  have hltm := toNat_lt_of_narrow hm
  have hc := c.toNat_le
  rw [adcBinary_v_iff ha hm, adcBinary_r_toNat]
  cases w <;> (simp only [Width.bits] at *; omega)

/-- The same for the difference, where the result is the exact difference plus 2^w or 0. -/
theorem sbcBinary_v_iff_range (ha : narrow w a = a) (hm : narrow w m = m) :
    (sbcBinary w a m c).v = true ↔
      ¬ (-(2 : Int) ^ (w.bits - 1) ≤ signedValue w a - signedValue w m - (1 - c.toNat) ∧
        signedValue w a - signedValue w m - (1 - c.toNat) < (2 : Int) ^ (w.bits - 1)) := by
  have hsa := signedValue_cases ha
  have hsm := signedValue_cases hm
  have hlta := toNat_lt_of_narrow ha
  have hltm := toNat_lt_of_narrow hm
  have hc := c.toNat_le
  have hdiff := sbcBinary_r_toNat w a m c
  rw [sbcBinary_v_iff ha hm]
  cases w <;> (simp only [Width.bits] at *; omega)

end Sys2Proof.Machine

/-! ## The statements of 41_arithmetic.md -/

namespace Sys2Proof.ArithmeticRules

open Sys2Proof Sys2Proof.Machine

/-- Settles O12: every form is the one ADC, whose outcome with d = 0 is the binary sum. -/
theorem adcBinaryResultFlagsAndFrame : Obligations.AdcBinaryResultFlagsAndFrame := by
  intro s o f hf hd hdev w a m sum r
  obtain ⟨henc, hex⟩ := adcForm_exec hf
  have hr : (adcBinary w a m (s.flag .c)).r = r := adcBinary_r w a m _
  refine ⟨henc, s.afterAdd o (adcBinary w a m (s.flag .c)), ?answer, ?result, ?carry, ?overflow, ?nz,
    s.afterAdd_frame o _⟩
  case answer => rw [hex, adc_of_not hdev, State.adcOut_binary hd]
  case result => rw [State.afterAdd_c, hr]
  case carry => exact (s.flag_afterAdd o _ .c).trans (adcBinary_c w a m _)
  case overflow => exact hr ▸ (s.flag_afterAdd o _ .v).trans (adcBinary_v w a m _)
  case nz => exact hr ▸ s.nzFrom_afterAdd_adcBinary o w a m _

/-- Settles O14: every form is the one SBC, whose outcome with d = 0 is the binary difference. -/
theorem sbcBinaryResultFlagsAndFrame : Obligations.SbcBinaryResultFlagsAndFrame := by
  intro s o f hf hd hdev w a m diff r
  obtain ⟨henc, hex⟩ := sbcForm_exec hf
  have hr : (sbcBinary w a m (s.flag .c)).r = r := sbcBinary_r w a m _
  refine ⟨henc, s.afterAdd o (sbcBinary w a m (s.flag .c)), ?answer, ?result, ?carry, ?overflow, ?nz,
    s.afterAdd_frame o _⟩
  case answer => rw [hex, sbc_of_not hdev, State.sbcOut_binary hd]
  case result => rw [State.afterAdd_c, hr]
  case carry => exact (s.flag_afterAdd o _ .c).trans (sbcBinary_c w a m _)
  case overflow => exact hr ▸ (s.flag_afterAdd o _ .v).trans (sbcBinary_v w a m _)
  case nz => exact hr ▸ s.nzFrom_afterAdd_sbcBinary o w a m _

/-- Settles O13: ADC with d = 1 answers whatever the operands; on valid BCD its outcome is the decimal one. -/
theorem adcDecimalResultFlagsAndFrame : Obligations.AdcDecimalResultFlagsAndFrame := by
  intro s o f hf hd hdev w a m sum r
  obtain ⟨henc, hex⟩ := adcForm_exec hf
  refine ⟨henc, _, (hex s).trans (adc_of_not hdev), fun ha hm => ?valid, fun hw => State.hiByte_afterAdd hw _,
    s.afterAdd_frame o _⟩
  rw [State.adcOut_decimal hd ha hm]
  exact s.afterAdd_decimalOut o r _

/-- Settles O15: SBC with d = 1 answers whatever the operands; on valid BCD its outcome is the decimal one. -/
theorem sbcDecimalResultFlagsAndFrame : Obligations.SbcDecimalResultFlagsAndFrame := by
  intro s o f hf hd hdev w a m diff r
  obtain ⟨henc, hex⟩ := sbcForm_exec hf
  refine ⟨henc, _, (hex s).trans (sbc_of_not hdev), fun ha hm => ?valid, fun hw => State.hiByte_afterAdd hw _,
    s.afterAdd_frame o _⟩
  rw [State.sbcOut_decimal hd ha hm]
  exact s.afterAdd_decimalOut o r _

/-- Settles O16: both directions are the laws of digits and place values, at bases 10 and 16. -/
theorem bcdAndDecimalValueAreInverse : Obligations.BcdAndDecimalValueAreInverse := by
  refine fun w => ⟨fun n hn => ⟨?decoded, validBcd_bcd w n, ?fits⟩, fun v hv hd => ⟨dec_lt hd, ?coded⟩⟩
  case decoded => rw [dec_bcd, Nat.mod_eq_of_lt hn]
  case fits => rw [← narrow_eq_lowBits, narrow_bcd]
  case coded => exact bcd_dec hd ((narrow_eq_lowBits w v).trans hv)

/-- Settles O17: the sum and the difference, each against the range. -/
theorem overflowMeansSignedRangeLeft : Obligations.OverflowMeansSignedRangeLeft := by
  intro w a m c ha hm fits
  rw [← narrow_eq_lowBits] at ha hm
  exact ⟨adcBinary_v_iff_range ha hm, sbcBinary_v_iff_range ha hm⟩

end Sys2Proof.ArithmeticRules
end

section
/-! SUPPORT. A bitwise operation at a width, and what AND, EOR, ORA and BIT leave in the machine; and the statements of
42_binary.md that are settled with them. -/

namespace Sys2Proof.Machine

variable {s : State} {o : Operand}

/-! ## Bitwise operations at a width (R182) -/

/-- The low part of a result is the result of the low parts, as for an operation that works bit by bit. -/
def ActsOnLowBits (g : Word → Word → Word) : Prop := ∀ w a b, narrow w (g a b) = g (narrow w a) (narrow w b)

theorem actsOnLowBits_and : ActsOnLowBits fun a b => a &&& b := fun w a b =>
  BitVec.eq_of_toNat_eq (by simp only [narrow_toNat, BitVec.toNat_and, Nat.and_mod_two_pow])

theorem actsOnLowBits_xor : ActsOnLowBits fun a b => a ^^^ b := fun w a b =>
  BitVec.eq_of_toNat_eq (by simp only [narrow_toNat, BitVec.toNat_xor, Nat.xor_mod_two_pow])

theorem actsOnLowBits_or : ActsOnLowBits fun a b => a ||| b := fun w a b =>
  BitVec.eq_of_toNat_eq (by simp only [narrow_toNat, BitVec.toNat_or, Nat.or_mod_two_pow])

/-- AND, EOR and ORA: accumulator and operand are values of the width, so the result is one. -/
theorem logic_loadsAcc {g : Word → Word → Word} (hg : ActsOnLowBits g) (hd : ¬ o.onIndexedDevice s s.wA) :
    s.loadsAcc s.wA (g (s.acc s.wA) (s.readData (o.loc s) s.wA)) (o.len s) (logic g o s) := by
  have hr : narrow s.wA (g (s.acc s.wA) (s.readData (o.loc s) s.wA)) = g (s.acc s.wA) (s.readData (o.loc s) s.wA) := by
    rw [hg, State.narrow_acc, State.narrow_readData]
  rw [logic, accessOnce_of_not hd]
  exact s.loadsAcc_setNZ s.wA _ hr (o.len s)

/-! ## BIT (R181) -/

/-- The flags BIT leaves from a memory operand of value `m`. -/
def State.afterBit (s : State) (m : Word) : State :=
  ((s.setTestZ (s.acc s.wA) m).setFlag .n (msb s.wA m)).setFlag .v (nextMsb s.wA m)

theorem bitMemory_of_not (h : ¬ o.onIndexedDevice s s.wA) :
    bitMemory o s = .next ((s.afterBit (s.readData (o.loc s) s.wA)).advance (o.len s)) := accessOnce_of_not h _

theorem State.flag_afterBit (s : State) (m : Word) (g : Flag) :
    (s.afterBit m).flag g =
      if g = .v then m.getLsbD (s.wA.bits - 2) else if g = .n then m.getLsbD (s.wA.bits - 1)
      else if g = .z then s.acc s.wA &&& m == 0#16 else s.flag g := by
  simp only [State.afterBit, State.flag_setFlag, State.flag_setTestZ, msb_eq, nextMsb_eq]

/-- BIT with a memory operand writes n, v and z alone. -/
theorem bitMemory_writesFlags (hd : ¬ o.onIndexedDevice s s.wA) :
    s.writesFlags [.n, .v, .z]
      (fun t => t.flag .z = decide (s.acc s.wA &&& s.readData (o.loc s) s.wA = 0#16) ∧
        t.flag .n = (s.readData (o.loc s) s.wA).getLsbD (s.wA.bits - 1) ∧
        t.flag .v = (s.readData (o.loc s) s.wA).getLsbD (s.wA.bits - 2))
      (o.len s) (bitMemory o s) := by
  rw [bitMemory_of_not hd]
  generalize s.readData (o.loc s) s.wA = m
  refine State.writesFlags_of_p rfl (fun g hg => ?kept)
    ⟨s.flag_afterBit m .z, s.flag_afterBit m .n, s.flag_afterBit m .v⟩
  simp only [List.mem_cons, List.not_mem_nil, or_false, not_or] at hg
  obtain ⟨hn, hv, hz⟩ := hg
  rw [State.advance_flag, State.flag_afterBit, if_neg hv, if_neg hn, if_neg hz]

/-- BIT with an immediate writes z alone. -/
theorem bitImmediate_writesFlags (s : State) (o : Operand) :
    s.writesFlags [.z] (fun t => t.flag .z = decide (s.acc s.wA &&& s.readData (o.loc s) s.wA = 0#16)) (o.len s)
      (bitImmediate o s) := by
  refine State.writesFlags_of_p rfl (fun g hg => ?kept) (s.flag_setTestZ _ _ .z)
  rw [State.advance_flag, State.flag_setTestZ, if_neg (List.mem_singleton.not.mp hg)]

theorem State.readData_immM (s : State) (k : Word) :
    s.readData ((Operand.immM k).loc s) s.wA = lowBits s.wA k :=
  (narrow_narrow s.wA k).trans (narrow_eq_lowBits s.wA k)

theorem immLen_eq (w : Width) : immLen w = if w = .w16 then 3 else 2 := by cases w <;> rfl

end Sys2Proof.Machine

/-! ## The statements of 42_binary.md -/

namespace Sys2Proof.BinaryRules

open Sys2Proof Sys2Proof.Machine

/-- Settles O19: every form is the one shape of AND, EOR and ORA, with its bitwise operation. -/
theorem logicalInstructions : Obligations.LogicalInstructions := by
  intro s o f hdev w m
  refine ⟨fun hf => ?and, fun hf => ?eor, fun hf => ?ora⟩
  case and =>
    obtain ⟨henc, hex⟩ := andForm_exec hf
    exact ⟨henc, hex s ▸ logic_loadsAcc actsOnLowBits_and hdev⟩
  case eor =>
    obtain ⟨henc, hex⟩ := eorForm_exec hf
    exact ⟨henc, hex s ▸ logic_loadsAcc actsOnLowBits_xor hdev⟩
  case ora =>
    obtain ⟨henc, hex⟩ := oraForm_exec hf
    exact ⟨henc, hex s ▸ logic_loadsAcc actsOnLowBits_or hdev⟩

/-- Settles O20: every memory form is the one BIT that copies two bits of memory; the immediate's operand is its low part. -/
theorem bitTest : Obligations.BitTest := by
  intro s o f k w m
  refine ⟨fun hf hdev => ?memory, ⟨rfl, rfl⟩, ?immediate⟩
  case memory =>
    obtain ⟨henc, hex⟩ := bitForm_exec hf
    exact ⟨henc, hex s ▸ bitMemory_writesFlags hdev⟩
  case immediate =>
    rw [← s.readData_immM k, ← immLen_eq]
    exact bitImmediate_writesFlags s (.immM k)

end Sys2Proof.BinaryRules
end

section
/-! SUPPORT. A difference at a width, and the flags a comparison leaves; and the statement of 43_program_flow.md on CMP, CPX and
CPY. -/

namespace Sys2Proof.Machine

variable {s : State} {o : Operand} {w : Width} {a m : Word}

/-! ## Differences at a width (R209, R210) -/

/-- The low part of a difference, with 2^w added so that no borrow is left. -/
theorem narrow_sub_eq (hm : narrow w m = m) :
    narrow w (a - m) = BitVec.ofNat 16 ((a.toNat + 2 ^ w.bits - m.toNat) % 2 ^ w.bits) := by
  have hlt := toNat_lt_of_narrow hm
  apply BitVec.eq_of_toNat_eq
  simp only [narrow_toNat, BitVec.toNat_sub, BitVec.toNat_ofNat]
  cases w <;> (simp only [Width.bits] at hlt ⊢; omega)

/-- Two values differ by 0 at a width exactly when they agree there. -/
theorem narrow_sub_eq_zero_iff : narrow w (a - m) = 0#16 ↔ narrow w a = narrow w m := by
  have := a.isLt
  have := m.isLt
  simp only [← BitVec.toNat_inj, narrow_toNat, BitVec.toNat_sub, BitVec.toNat_ofNat]
  cases w <;> (simp only [Width.bits]; omega)

/-! ## Flags of a comparison (R209 to R211) -/

theorem State.nzFrom_setCompare (s : State) (w : Width) (a m : Word) : (s.setCompare w a m).nzFrom w (narrow w (a - m)) :=
  State.nzFrom_of_flags (narrow_narrow w _) (s.flag_setCompare w a m .n) (s.flag_setCompare w a m .z)

theorem State.flag_c_setCompare (s : State) (w : Width) (a m : Word) :
    (s.setCompare w a m).flag .c = decide (m.toNat ≤ a.toNat) := s.flag_setCompare w a m .c

/-- z tells equality, the values compared being values of the width. -/
theorem State.flag_z_setCompare (s : State) (ha : narrow w a = a) (hm : narrow w m = m) :
    (s.setCompare w a m).flag .z = decide (a = m) := by
  rw [(s.nzFrom_setCompare w a m).2, decide_eq_decide, narrow_sub_eq_zero_iff, ha, hm]

theorem State.keepsFlagsBut_setCompare (s : State) (w : Width) (a m : Word) :
    s.keepsFlagsBut (s.setCompare w a m) [.n, .z, .c] := by
  intro g hg
  simp only [List.mem_cons, List.not_mem_nil, or_false, not_or] at hg
  obtain ⟨hn, hz, hc⟩ := hg
  rw [State.flag_setCompare, if_neg hc, if_neg hz, if_neg hn]

/-- A comparison of two values of a width writes n, z and c alone. -/
theorem State.setCompare_writesFlags (s : State) (ha : narrow w a = a) (hm : narrow w m = m) (len : Nat) :
    s.writesFlags [.n, .z, .c]
      (fun t => t.nzFrom w (BitVec.ofNat 16 ((a.toNat + 2 ^ w.bits - m.toNat) % 2 ^ w.bits)) ∧
        t.flag .z = decide (a = m) ∧ t.flag .c = decide (m.toNat ≤ a.toNat))
      len (.next ((s.setCompare w a m).advance len)) := by
  rw [← narrow_sub_eq hm]
  refine State.writesFlags_of_p rfl (s.keepsFlagsBut_setCompare w a m) ⟨?nz, ?equal, ?noBorrow⟩
  case nz => exact s.nzFrom_setCompare w a m
  case equal => rw [State.advance_flag, s.flag_z_setCompare ha hm]
  case noBorrow => rw [State.advance_flag, s.flag_c_setCompare]

theorem State.acc_eq_lowBits (s : State) (w : Width) : s.acc w = lowBits w s.c := narrow_eq_lowBits w s.c

theorem State.idx_x_eq_lowBits (s : State) (w : Width) : s.idx .x w = lowBits w s.x := narrow_eq_lowBits w s.x

theorem State.idx_y_eq_lowBits (s : State) (w : Width) : s.idx .y w = lowBits w s.y := narrow_eq_lowBits w s.y

theorem cmp_of_not (h : ¬ o.onIndexedDevice s s.wA) :
    cmp o s = .next ((s.setCompare s.wA (s.acc s.wA) (s.readData (o.loc s) s.wA)).advance (o.len s)) :=
  accessOnce_of_not h _

theorem cmpIndex_eq (r : IndexReg) (o : Operand) (s : State) :
    cmpIndex r o s = .next ((s.setCompare s.wX (s.idx r s.wX) (s.readData (o.loc s) s.wX)).advance (o.len s)) := rfl

end Sys2Proof.Machine

/-! ## The statement of 43_program_flow.md on the compares -/

namespace Sys2Proof.CompareRules

open Sys2Proof Sys2Proof.Machine

/-- Settles O25: every form compares a register with the operand at the register's width; all three are values of it. -/
theorem compares : Obligations.Compares := by
  refine fun s o f => ⟨fun hf hdev => ?cmp, fun hf => ?cpx, fun hf => ?cpy⟩
  case cmp =>
    obtain ⟨henc, hex⟩ := cmpForm_exec hf
    rw [hex, cmp_of_not hdev, ← s.acc_eq_lowBits]
    exact ⟨henc, s.setCompare_writesFlags (s.narrow_acc _) (s.narrow_readData _ _) (o.len s)⟩
  case cpx =>
    obtain ⟨henc, hex⟩ := cpxForm_exec hf
    rw [hex, cmpIndex_eq, ← s.idx_x_eq_lowBits]
    exact ⟨henc, s.setCompare_writesFlags (s.narrow_idx _ _) (s.narrow_readData _ _) (o.len s)⟩
  case cpy =>
    obtain ⟨henc, hex⟩ := cpyForm_exec hf
    rw [hex, cmpIndex_eq, ← s.idx_y_eq_lowBits]
    exact ⟨henc, s.setCompare_writesFlags (s.narrow_idx _ _) (s.narrow_readData _ _) (o.len s)⟩

end Sys2Proof.CompareRules
end

section
/-! SUPPORT. What the loads and the transfers between registers of one width leave in the machine; and the statements of
44_registers.md on LDA, LDX, LDY and the transfers at the width of their destination. -/

namespace Sys2Proof.Machine

variable {s : State} {o : Operand} {f : Form}

/-! ## Loads (R240 to R242) -/

/-- LDA loads the operand, a value of the accumulator's width. -/
theorem lda_loadsAcc (h : ¬ o.onIndexedDevice s s.wA) :
    s.loadsAcc s.wA (s.readData (o.loc s) s.wA) (o.len s) (lda o s) := by
  rw [lda, accessOnce_of_not h]
  exact s.loadsAcc_setNZ s.wA _ (s.narrow_readData _ _) (o.len s)

/-- LDX and LDY load the operand, a value of the index width. -/
theorem ldIndex_loadsIndex (r : IndexReg) (h : ¬ o.onIndexedDevice s s.wX) :
    s.loadsIndex r s.wX (s.readData (o.loc s) s.wX) (o.len s) (ldIndex r o s) := by
  rw [ldIndex, accessOnce_of_not h]
  exact s.loadsIndex_setNZ r s.wX _ (s.narrow_readData _ _) (o.len s)

theorem Operand.not_onIndexedDevice_of_indexedAccess_eq_none {w : Width} (h : o.indexedAccess s w = none) :
    ¬ o.onIndexedDevice s w := by
  rintro ⟨l, v, hindexed, -⟩
  rw [h] at hindexed
  cases hindexed

/-- The forms of LDX whose operand no parameter decides index nothing: an immediate, `dp` and `addr`. -/
theorem ldxForm_indexedAccess (h : ldxForm o = some f) (s : State) (w : Width) : o.indexedAccess s w = none := by
  unfold ldxForm at h
  split at h
  case h_1 | h_2 | h_3 => rfl
  case h_4 => cases h

theorem ldxAbsOperand_len (i : LdxIndex) (a : Word) (s : State) : (ldxAbsOperand i a).len s = 3 := by cases i <;> rfl

theorem ldxDpOperand_len (i : LdxIndex) (k : Byte) (s : State) : (ldxDpOperand i k).len s = 2 := by cases i <;> rfl

theorem exec_ldxAbsY (a : Word) (s : State) :
    exec (.ldxAbsY a) s = ldIndex .x (ldxAbsOperand s.cfg.ldxIndex a) s := rfl

theorem exec_ldxDpY (k : Byte) (s : State) :
    exec (.ldxDpY k) s = ldIndex .x (ldxDpOperand s.cfg.ldxIndex k) s := rfl

/-! ## Transfers at the width of the destination (R248, R249, R254, R255, R257 to R259) -/

theorem toIndex_loadsIndex (r : IndexReg) (v : Word) (s : State) :
    s.loadsIndex r s.wX (lowBits s.wX v) 1 (toIndex r v s) := by
  rw [← narrow_eq_lowBits]
  exact s.loadsIndex_setNZ r s.wX _ (narrow_narrow s.wX v) 1

theorem toAcc_loadsAcc (v : Word) (s : State) : s.loadsAcc s.wA (lowBits s.wA v) 1 (toAcc v s) := by
  rw [← narrow_eq_lowBits]
  exact s.loadsAcc_setNZ s.wA _ (narrow_narrow s.wA v) 1

end Sys2Proof.Machine

/-! ## The statements of 44_registers.md -/

namespace Sys2Proof.RegisterRules

open Sys2Proof Sys2Proof.Machine

/-- Settles O31: every form is the one LDA. -/
theorem loadAccumulator : Obligations.LoadAccumulator := by
  intro s o f hf hdev
  obtain ⟨henc, hex⟩ := ldaForm_exec hf
  exact ⟨henc, hex s ▸ lda_loadsAcc hdev⟩

/-- Settles O32: every form is the one load of an index register; `LDX_INDEX` decides only the operand of opcodes BE and B6,
not its length. -/
theorem loadIndexRegisters : Obligations.LoadIndexRegisters := by
  intro s o f a k w far near
  have hfar : ldxAbsOperand s.cfg.ldxIndex a = far := ldxAbsOperand_eq _ a
  have hnear : ldxDpOperand s.cfg.ldxIndex k = near := ldxDpOperand_eq _ k
  refine ⟨fun hf hdev => ?ldy, fun hf => ?ldx, ⟨rfl, rfl⟩, fun hdev => ?ldxFar, ⟨rfl, rfl⟩, fun hdev => ?ldxNear⟩
  case ldy =>
    obtain ⟨henc, hex⟩ := ldyForm_exec hf
    exact ⟨henc, hex s ▸ ldIndex_loadsIndex .y hdev⟩
  case ldx =>
    obtain ⟨henc, hex⟩ := ldxForm_exec hf
    have hdev := Operand.not_onIndexedDevice_of_indexedAccess_eq_none (ldxForm_indexedAccess hf s w)
    exact ⟨henc, hex s ▸ ldIndex_loadsIndex .x hdev⟩
  case ldxFar =>
    rw [exec_ldxAbsY, ← ldxAbsOperand_len s.cfg.ldxIndex a s, hfar]
    exact ldIndex_loadsIndex .x hdev
  case ldxNear =>
    rw [exec_ldxDpY, ← ldxDpOperand_len s.cfg.ldxIndex k s, hnear]
    exact ldIndex_loadsIndex .x hdev

/-- Settles O34: the seven are the two transfers, into an index register and into the accumulator, from their source. -/
theorem transfersAtTheDestinationWidth : Obligations.TransfersAtTheDestinationWidth := fun s =>
  ⟨⟨rfl, rfl⟩, toIndex_loadsIndex .x s.c s, ⟨rfl, rfl⟩, toIndex_loadsIndex .y s.c s,
    ⟨rfl, rfl⟩, toIndex_loadsIndex .x s.s s, ⟨rfl, rfl⟩, toIndex_loadsIndex .y s.x s,
    ⟨rfl, rfl⟩, toIndex_loadsIndex .x s.y s, ⟨rfl, rfl⟩, toAcc_loadsAcc s.x s, ⟨rfl, rfl⟩, toAcc_loadsAcc s.y s⟩

end Sys2Proof.RegisterRules
end

section
/-! SUPPORT. What the acceptance test chooses, what a step does with an accepted interrupt, and the return from an interrupt right
after its sequence; and the statements of 46_interrupts.md on BRK, COP, IRQ, NMI, RTI after BRK and the two stutters. -/

namespace Sys2Proof.Machine

variable {s t : State}

/-! ## The acceptance test (R303, R315, R324, R326, R331, R334) -/

/-- NMI comes before IRQ and whatever i is (R326, R331). -/
theorem State.boundary_nmi (hrun : s.run ≠ .stopped) (hreset : s.resetLine = false) (hnmi : s.nmiPending = true) :
    s.boundary = .nmi := by
  cases hs : s.run with
  | stopped => exact absurd hs hrun
  | running | waiting => simp only [State.boundary, hs, hreset, hnmi, if_true, Bool.false_eq_true, if_false]

/-- IRQ is taken only when i is clear (R324). -/
theorem State.boundary_irq (hrun : s.run ≠ .stopped) (hreset : s.resetLine = false) (hnmi : s.nmiPending = false)
    (hirq : s.irqLine = true) (hi : s.flag .i = false) : s.boundary = .irq := by
  cases hs : s.run with
  | stopped => exact absurd hs hrun
  | running | waiting =>
    simp only [State.boundary, hs, hreset, hnmi, hirq, hi, and_self, if_true, Bool.false_eq_true, if_false]

/-- Nothing ends a wait without an input (R303). -/
theorem State.boundary_waiting (hrun : s.run = .waiting) (hreset : s.resetLine = false) (hnmi : s.nmiPending = false)
    (hirq : s.irqLine = false) : s.boundary = .stay := by
  simp only [State.boundary, hrun, hreset, hnmi, hirq, Bool.false_eq_true, if_false]

/-- Only reset ends STP (R315, R334). -/
theorem State.boundary_stopped (hrun : s.run = .stopped) (hreset : s.resetLine = false) : s.boundary = .stay := by
  simp only [State.boundary, hrun, hreset, Bool.false_eq_true, if_false]

/-! ## A step that runs no instruction -/

theorem afterSampling_of_nmi (h : s.boundary = .nmi) : afterSampling s = .next s.takeNmi := by rw [afterSampling, h]

theorem afterSampling_of_irq (h : s.boundary = .irq) : afterSampling s = .next s.takeIrq := by rw [afterSampling, h]

theorem afterSampling_of_stay (h : s.boundary = .stay) : afterSampling s = .next s := by rw [afterSampling, h]

/-- An accepted NMI: its sequence from the current PC, the latch cleared, a wait ended (R326). -/
theorem step_of_nmi (hrun : s.run ≠ .stopped) (hreset : s.levels.reset = false) (hnmi : s.nmiSeen = true) :
    step s = .next (({ s.withInputs false with run := .running } : State).enterInterrupt .nmi s.pc) := by
  rw [step, State.sampleInputs_running hrun, hnmi]
  exact afterSampling_of_nmi (State.boundary_nmi hrun hreset rfl)

/-- An accepted IRQ: its sequence from the current PC, a wait ended (R324). -/
theorem step_of_irq (hrun : s.run ≠ .stopped) (hreset : s.levels.reset = false) (hnmi : s.nmiSeen = false)
    (hirq : s.levels.irq = true) (hi : s.flag .i = false) :
    step s = .next (({ s.withInputs false with run := .running } : State).enterInterrupt .irq s.pc) := by
  rw [step, State.sampleInputs_running hrun, hnmi]
  exact afterSampling_of_irq (State.boundary_irq hrun hreset rfl hirq hi)

/-! ## The vectors (R325) -/

theorem Cause.vector_eq_ite (k : Cause) (e : Bool) : k.vector e = if e then k.vector true else k.vector false := by
  cases e <;> rfl

/-- The interrupt sequence with its vector by mode. -/
theorem State.enterInterrupt_interruptedTo (hw : Memory.wf s.mem = true) (k : Cause) (ret : Word) :
    s.interruptedTo (s.enterInterrupt k ret) ret (s.stackedP k) (if s.e then k.vector true else k.vector false) :=
  k.vector_eq_ite s.e ▸ State.interruptedTo_enterInterrupt hw k ret

/-! ## The bytes of a native-mode stack frame (R150, R151) -/

theorem State.stackBelow_of_native (he : s.e = false) (n : Nat) : s.stackBelow n = s.s - BitVec.ofNat 16 n := by
  induction n with
  | zero => exact (BitVec.sub_zero s.s).symm
  | succ n ih =>
    rw [State.stackBelow, he, ih, BitVec.ofNat_add, ← sub_sub]
    rfl

/-- Fewer than 2^16 pushes in native mode store at different addresses. -/
theorem State.b0_stackBelow_ne (he : s.e = false) {i j : Nat} (hij : i < j) (hj : j < 2 ^ 16) :
    b0 (s.stackBelow i) ≠ b0 (s.stackBelow j) := by
  intro h
  have offsets := b0_injective h
  rw [State.stackBelow_of_native he, State.stackBelow_of_native he, sub_right_inj] at offsets
  have := congrArg BitVec.toNat offsets
  rw [BitVec.toNat_ofNat, BitVec.toNat_ofNat, Nat.mod_eq_of_lt (hij.trans hj), Nat.mod_eq_of_lt hj] at this
  exact hij.ne this

/-- Later pushes leave the byte of an earlier one alone. -/
theorem State.byteAfter_pushesFrom_of_lt (he : s.e = false) (old : Byte) (bytes : List Byte) {j k : Nat} (hjk : j < k)
    (hk : k + bytes.length ≤ 2 ^ 16) : byteAfter old (b0 (s.stackBelow j)) (s.pushesFrom k bytes) = old := by
  induction bytes generalizing k with
  | nil => rfl
  | cons b rest ih =>
    rw [List.length_cons] at hk
    rw [State.pushesFrom, byteAfter, if_neg (State.b0_stackBelow_ne he hjk (by omega))]
    exact ih (by omega) (by omega)

/-- After pushes in native mode each byte stands where its push stored it. -/
theorem State.byteAfter_pushesFrom (he : s.e = false) (old : Byte) (bytes : List Byte) {j k : Nat} (hj : j < bytes.length)
    (hk : k + bytes.length ≤ 2 ^ 16) : byteAfter old (b0 (s.stackBelow (k + j))) (s.pushesFrom k bytes) = bytes[j] := by
  induction bytes generalizing j k old with
  | nil => exact absurd hj (Nat.not_lt_zero j)
  | cons b rest ih =>
    rw [List.length_cons] at hj hk
    rw [State.pushesFrom, byteAfter]
    cases j with
    | zero => exact (State.byteAfter_pushesFrom_of_lt he _ rest k.lt_succ_self (by omega)).trans (if_pos rfl)
    | succ j =>
      rw [Nat.add_succ, ← Nat.succ_add]
      exact ih _ (by omega) (by omega)

/-- Pull number m after pushes to RAM in native mode delivers the byte pushed m-th from the end. -/
theorem State.stackByte_of_pushes {bytes : List Byte} (he : s.e = false) (hte : t.e = s.e)
    (hstores : s.storesTo t (s.pushes bytes)) (hsp : t.s = s.stackBelow bytes.length) (hlen : bytes.length ≤ 2 ^ 16)
    {j m : Nat} (hj : j < bytes.length) (hm : j + m = bytes.length) (hram : kindAt s.cfg (b0 (s.stackBelow j)) = .ram) :
    t.stackByte m = bytes[j] := by
  have inPage : s.e = true → hiByte s.s = 0x01#8 := fun h => absurd (he.symm.trans h) Bool.false_ne_true
  have below : t.stackAbove m = s.stackBelow j := State.stackAbove_of_stackBelow inPage hte m (hm ▸ hsp)
  have stored := State.byteAfter_pushesFrom he (s.read .stack (b0 (s.stackBelow j))) bytes hj (k := 0) (by omega)
  rw [Nat.zero_add] at stored
  rw [State.stackByte, below, hstores, if_pos hram]
  exact stored

/-! ## The return from an interrupt right after its sequence (R332) -/

/-- A value of the width of the index registers is its own low part (I4). -/
theorem State.Inv.lowBits_index (hi : s.Inv) : lowBits s.wX s.x = s.x ∧ lowBits s.wX s.y = s.y := by
  simp only [← narrow_eq_lowBits]
  rcases s.wX_cases with hw | ⟨hw, -⟩
  · obtain ⟨hx, hy⟩ := hi.narrowIndex hw
    rw [hw]
    exact ⟨narrow_w8_of_hiByte_zero hx, narrow_w8_of_hiByte_zero hy⟩
  · rw [hw]
    exact ⟨rfl, rfl⟩

/-- The interrupt sequence writes S, P, PBR, PC and memory alone. -/
theorem State.enterInterrupt_rest (s : State) (k : Cause) (ret : Word) :
    let t := s.enterInterrupt k ret
    t = { s with s := t.s, p := t.p, pbr := t.pbr, pc := t.pc, mem := t.mem } := by
  rw [s.enterInterrupt_eq]

/-- What RTI finds on the stack after the interrupt sequence in native mode. -/
theorem State.stackByte_enterInterrupt (hw : Memory.wf s.mem = true) (he : s.e = false)
    (hram : ∀ n ≤ 3, kindAt s.cfg (b0 (s.stackBelow n)) = .ram) (k : Cause) (ret : Word) :
    (s.enterInterrupt k ret).stackByte 1 = s.p ∧ (s.enterInterrupt k ret).stackByte 2 = loByte ret ∧
      (s.enterInterrupt k ret).stackByte 3 = hiByte ret ∧ (s.enterInterrupt k ret).stackByte 4 = s.pbr := by
  have pushed := State.pushed_frame hw k ret
  have hte : (s.enterInterrupt k ret).e = s.e := by rw [s.enterInterrupt_eq]
  have hp : s.stackedP k = s.p := if_neg (Bool.eq_false_iff.mp he)
  rw [if_neg (Bool.eq_false_iff.mp he), hp] at pushed
  have hstores := State.storesTo_congr pushed.stores (u := s.enterInterrupt k ret) rfl rfl rfl
  have pulled {j m : Nat} (hj : j < 4) (hm : j + m = 4) :=
    State.stackByte_of_pushes he hte hstores pushed.sp (Nat.le_of_ble_eq_true rfl) hj hm (hram j (Nat.le_of_lt_succ hj))
  exact ⟨pulled (j := 3) (by decide) rfl, pulled (j := 2) (by decide) rfl, pulled (j := 1) (by decide) rfl,
    pulled (j := 0) (by decide) rfl⟩

/-- In native mode RTI right after any interrupt sequence gives back every register, with PC at the return address. -/
theorem State.returnFromInterrupt_enterInterrupt (hi : s.Inv) (he : s.e = false)
    (hram : ∀ n ≤ 3, kindAt s.cfg (b0 (s.stackBelow n)) = .ram) (k : Cause) (ret : Word) :
    (s.enterInterrupt k ret).returnFromInterrupt = { s with pc := ret, mem := (s.enterInterrupt k ret).mem } := by
  obtain ⟨hp, hlo, hhi, hpbr⟩ := State.stackByte_enterInterrupt hi.memWf he hram k ret
  obtain ⟨-, hsp, -⟩ := State.interruptedTo_enterInterrupt hi.memWf k ret
  obtain ⟨hx, hy⟩ := hi.lowBits_index
  have kept := s.enterInterrupt_rest k ret
  generalize s.enterInterrupt k ret = t at *
  have hte : t.e = s.e := by rw [kept]
  have native : ¬ t.e = true := Bool.eq_false_iff.mp (hte.trans he)
  have hsp : t.stackAbove 4 = s.s := State.stackAbove_of_stackBelow (n := 0) hi.stackPage hte 4 (by rw [hsp, he]; rfl)
  have hstatus : statusValue t.e s.p = s.p := if_neg native
  have whole := t.returnFromInterrupt_eq
  rw [hp, hlo, hhi, hpbr, if_neg native, if_neg native, hsp, hstatus, word_hi_lo] at whole
  have width : t.returnFromInterrupt.wX = s.wX := by
    refine State.wX_congr ?_ ?_ (State.flag_of_p ?_ .x)
    all_goals rw [whole]
    case refine_1 => rw [kept]
    case refine_2 => exact hte
  rw [width] at whole
  rw [whole, kept]
  dsimp only
  rw [hx, hy]

end Sys2Proof.Machine

/-! ## The statements of 46_interrupts.md -/

namespace Sys2Proof.InterruptRules

open Sys2Proof Sys2Proof.Machine

/-- Settles O41: each of the two is the interrupt sequence of its cause, returning to PC + 2. -/
theorem softwareInterrupts : Obligations.SoftwareInterrupts := fun s _ hw =>
  ⟨⟨⟨rfl, rfl⟩, _, rfl, State.enterInterrupt_interruptedTo hw .brk (s.pc + 2#16)⟩,
    ⟨rfl, rfl⟩, _, rfl, State.enterInterrupt_interruptedTo hw .cop (s.pc + 2#16)⟩

/-- Settles O43: the four bytes pulled are the four pushed. -/
theorem returnRestoresWhatBreakSaved : Obligations.ReturnRestoresWhatBreakSaved := by
  intro s sig hi he hram
  have restored := State.returnFromInterrupt_enterInterrupt hi he hram .brk (s.pc + 2#16)
  exact ⟨_, _, rfl, rfl, congrArg State.pc restored, by rw [restored]⟩

/-- Settles O44: the acceptance test chooses IRQ, whose sequence starts from the sampled state. -/
theorem irqTaken : Obligations.IrqTaken := fun s hw hrun hreset hnmi hirq hi =>
  ⟨_, step_of_irq hrun hreset hnmi hirq hi,
    State.enterInterrupt_interruptedTo (s := { s.withInputs false with run := .running }) hw .irq s.pc⟩

/-- Settles O45: the acceptance test chooses NMI, whose sequence starts from the sampled state with the latch cleared. -/
theorem nmiTaken : Obligations.NmiTaken := fun s hw hrun hreset hnmi =>
  ⟨_, step_of_nmi hrun hreset hnmi,
    State.enterInterrupt_interruptedTo (s := { s.withInputs false with run := .running }) hw .nmi s.pc⟩

/-- Settles O48: the acceptance test chooses the stutter; a stopped processor samples no NMI edge. -/
theorem waitingAndStoppedStay : Obligations.WaitingAndStoppedStay := by
  intro s hreset
  refine ⟨fun hrun hnmi hirq => ?waiting, fun hrun => ?stopped⟩
  case waiting =>
    have awake : s.run ≠ .stopped := hrun ▸ nofun
    rw [step, State.sampleInputs_running awake, hnmi]
    exact afterSampling_of_stay (State.boundary_waiting hrun hreset rfl hirq)
  case stopped =>
    rw [step, State.sampleInputs_stopped hrun]
    exact afterSampling_of_stay (State.boundary_stopped hrun hreset)

end Sys2Proof.InterruptRules
end

section
/-! SUPPORT. What one byte of a block move does, block moves in a row, and the flags and registers that XCE leaves; and the
statements of 47_misc.md on NOP, WDM, WAI, STP, MVN, MVP and XCE. -/

namespace Sys2Proof.Machine

variable {s t u : State} {dst : Byte} {m n : Nat}

/-! ## Moving PC and the run state (R303, R313 to R315) -/

/-- NOP, WDM, WAI and STP in one: PC moves on, the run state is set, nothing else changes. -/
theorem State.advance_withRun (s : State) (run : RunState) (n : Nat) :
    ∃ t, (.next { s.advance n with run := run } : Out) = .next t ∧ t.run = run ∧ t.pc = s.pc + BitVec.ofNat 16 n ∧
      s.keepsMemory t ∧ { t with run := s.run, pc := s.pc, mem := s.mem } = s :=
  ⟨_, rfl, rfl, rfl, fun _ _ => rfl, rfl⟩

/-! ## A byte written elsewhere -/

/-- A write leaves the bytes at other addresses alone, whatever the form of the memory. -/
theorem Memory.read_write_of_ne (mem : Memory) {a b : Nat} (h : b ≠ a) (v : Byte) :
    Memory.read (Memory.write mem a v) b = Memory.read mem b := by
  induction mem with
  | nil => by_cases hv : v = Memory.unlisted <;> simp [Memory.write, Memory.read, hv, h.symm]
  | cons cell rest ih =>
    obtain ⟨k, x⟩ := cell
    rw [Memory.write]
    split_ifs with hlt hv heq hv
    · rfl
    · rw [Memory.read, if_neg h.symm]
    · rw [Memory.read, if_neg (heq ▸ h.symm)]
    · rw [Memory.read, if_neg h.symm, Memory.read, if_neg (heq ▸ h.symm)]
    · rw [Memory.read, Memory.read, ih]

theorem State.read_write_of_ne (s : State) {a b : Addr} (h : b ≠ a) (v : Byte) (k : AccessKind) :
    (s.write a v).read k b = s.read k b := by
  unfold State.read
  rw [State.write_cfg, State.write_time, State.write_mem]
  split_ifs
  · rw [Memory.read_write_of_ne s.mem (fun e => h (BitVec.eq_of_toNat_eq e)) v]
  · rfl

@[simp] theorem extract_bankAddr_bank (bank : Byte) (off : Word) : (bankAddr bank off).extractLsb' 16 8 = bank := by
  apply BitVec.eq_of_toNat_eq
  have := bank.isLt
  have := off.isLt
  simp only [BitVec.extractLsb'_toNat, bankAddr_toNat, linear, Nat.shiftRight_eq_div_pow]
  omega

theorem ne_bankAddr {a : Addr} {bank : Byte} (h : a.extractLsb' 16 8 ≠ bank) (off : Word) : a ≠ bankAddr bank off :=
  fun e => h (e ▸ extract_bankAddr_bank bank off)

/-! ## One byte of a block move (R310, R311) -/

theorem destBank_eq (order : BlockMoveOrder) (b1 b2 : Byte) :
    destBank order b1 b2 = if order = .dstFirst then b1 else b2 := by cases order <;> rfl

theorem sourceBank_eq (order : BlockMoveOrder) (b1 b2 : Byte) :
    sourceBank order b1 b2 = if order = .dstFirst then b2 else b1 := by cases order <;> rfl

theorem stepUp_eq (w : Width) (v : Word) : stepUp w v = lowBits w (v + 1#16) := narrow_eq_lowBits w _

theorem stepDown_eq (w : Width) (v : Word) : stepDown w v = lowBits w (v - 1#16) := narrow_eq_lowBits w _

theorem exec_mvn (b1 b2 : Byte) (s : State) :
    exec (.mvn b1 b2) s =
      blockMove stepUp (destBank s.cfg.blockMoveOrder b1 b2) (sourceBank s.cfg.blockMoveOrder b1 b2) s := rfl

theorem exec_mvp (b1 b2 : Byte) (s : State) :
    exec (.mvp b1 b2) s =
      blockMove stepDown (destBank s.cfg.blockMoveOrder b1 b2) (sourceBank s.cfg.blockMoveOrder b1 b2) s := rfl

/-- A block move step stores one byte; X and Y go where the step function takes them. -/
theorem blockMove_stores (hw : Memory.wf s.mem = true) (f : Width → Word → Word) (dst src : Byte) :
    ∃ t, blockMove f dst src s = .next t ∧
      s.storesTo t [(bankAddr dst s.y, s.read .data (bankAddr src s.x))] ∧
      t.x = f s.wX s.x ∧ t.y = f s.wX s.y ∧ t.c = s.c - 1#16 ∧ t.dbr = dst ∧
      t.pc = (if s.c = 0x0000#16 then s.pc + 3#16 else s.pc) ∧
      { t with x := s.x, y := s.y, c := s.c, dbr := s.dbr, pc := s.pc, mem := s.mem } = s := by
  have stored := State.storesTo_write (State.storesTo_nil (s := s) (t := s) fun _ _ => rfl) rfl hw
    (bankAddr dst s.y) (s.read .data (bankAddr src s.x))
  exact ⟨_, blockMove_eq f dst src s, State.storesTo_congr stored rfl rfl rfl, rfl, rfl, rfl, rfl, rfl, rfl⟩

/-! ## Block moves in a row (R310) -/

theorem lowBits_lowBits_add (w : Width) (v d : Word) : lowBits w (lowBits w v + d) = lowBits w (v + d) := by
  apply BitVec.eq_of_toNat_eq
  simp only [lowBits_toNat, BitVec.toNat_add]
  cases w <;> (simp only [Width.bits]; omega)

/-- From `s` to `t` MVN moved n bytes into bank `dst`: only what it writes changed, and no other bank. -/
structure State.BlockMoved (s t : State) (dst : Byte) (n : Nat) : Prop where
  x : t.x = lowBits s.wX (s.x + BitVec.ofNat 16 n)
  y : t.y = lowBits s.wX (s.y + BitVec.ofNat 16 n)
  c : t.c = s.c - BitVec.ofNat 16 n
  dbr : t.dbr = dst
  reads : ∀ (k : AccessKind) (a : Addr), a.extractLsb' 16 8 ≠ dst → t.read k a = s.read k a
  rest : t = { s with x := t.x, y := t.y, c := t.c, dbr := t.dbr, pc := t.pc, mem := t.mem }

theorem State.BlockMoved.cfg (h : s.BlockMoved t dst n) : t.cfg = s.cfg := by rw [h.rest]

theorem State.BlockMoved.wX (h : s.BlockMoved t dst n) : t.wX = s.wX := by rw [h.rest]; rfl

theorem State.BlockMoved.trans (h : s.BlockMoved t dst m) (k : t.BlockMoved u dst n) : s.BlockMoved u dst (m + n) where
  x := by rw [k.x, h.wX, h.x, lowBits_lowBits_add, BitVec.ofNat_add, add_assoc]
  y := by rw [k.y, h.wX, h.y, lowBits_lowBits_add, BitVec.ofNat_add, add_assoc]
  c := by rw [k.c, h.c, BitVec.ofNat_add, sub_sub]
  dbr := k.dbr
  reads kind a ha := (k.reads kind a ha).trans (h.reads kind a ha)
  rest := by rw [k.rest, h.rest]

/-- One execution of MVN moves one byte. -/
theorem exec_mvn_blockMoved (b1 b2 : Byte) (s : State) :
    ∃ t, exec (.mvn b1 b2) s = .next t ∧ s.BlockMoved t (destBank s.cfg.blockMoveOrder b1 b2) 1 ∧
      t.pc = if s.c = 0x0000#16 then s.pc + 3#16 else s.pc := by
  rw [exec_mvn]
  exact ⟨_, blockMove_eq _ _ _ s, ⟨stepUp_eq _ _, stepUp_eq _ _, rfl, rfl,
    fun k _ ha => s.read_write_of_ne (ne_bankAddr ha s.y) _ k, rfl⟩, rfl⟩

theorem execTimes_succ {i : Instr} (h : exec i s = .next t) (n : Nat) : execTimes i (n + 1) s = execTimes i n t := by
  rw [execTimes, h]

/-- MVN from C = n moves n + 1 bytes; PC leaves the instruction with the last one. -/
theorem execTimes_mvn (b1 b2 : Byte) (hn : s.c.toNat = n) :
    ∃ t, execTimes (.mvn b1 b2) (n + 1) s = .next t ∧
      s.BlockMoved t (destBank s.cfg.blockMoveOrder b1 b2) (n + 1) ∧ t.pc = s.pc + 3#16 := by
  induction n generalizing s with
  | zero =>
    obtain ⟨t, hexec, moved, hpc⟩ := exec_mvn_blockMoved b1 b2 s
    exact ⟨t, execTimes_succ hexec 0, moved, hpc.trans (if_pos (BitVec.eq_of_toNat_eq hn))⟩
  | succ n ih =>
    obtain ⟨t, hexec, moved, hpc⟩ := exec_mvn_blockMoved b1 b2 s
    have hc : s.c ≠ 0x0000#16 := fun h => Nat.succ_ne_zero n (hn.symm.trans (congrArg BitVec.toNat h))
    have hct : t.c.toNat = n := by
      rw [moved.c]
      bv_omega
    obtain ⟨u, hrest, moved', hpc'⟩ := ih hct
    rw [moved.cfg] at moved'
    refine ⟨u, (execTimes_succ hexec _).trans hrest, Nat.add_comm 1 (n + 1) ▸ moved.trans moved', ?pc⟩
    case pc => rw [hpc', hpc, if_neg hc]

/-! ## XCE (R312) -/

theorem getLsbD_or_fixedBits (p : Byte) (g : Flag) :
    (p ||| 0x30#8).getLsbD g.bit = (decide (g = .m ∨ g = .x) || p.getLsbD g.bit) := by
  cases g <;> simp [Flag.bit]

/-- c becomes the old e; m and x are set when emulation mode is on before or after. -/
theorem State.flag_exchangeCE (s : State) (g : Flag) :
    s.exchangeCE.flag g =
      if g = .c then s.e else if g = .m ∨ g = .x then s.flag .c || s.e || s.flag g else s.flag g := by
  rw [State.flag, s.exchangeCE_eq]
  dsimp only
  split
  case isTrue emulation =>
    rw [getLsbD_or_fixedBits, getLsbD_setFlagIn, emulation]
    cases g <;> simp [State.flag]
  case isFalse native =>
    rw [getLsbD_setFlagIn, Bool.eq_false_iff.mpr native, Bool.false_or, ite_self]
    rfl

@[simp] theorem State.exchangeCE_e (s : State) : s.exchangeCE.e = s.flag .c := by rw [s.exchangeCE_eq]

theorem State.exchangeCE_x (s : State) : s.exchangeCE.x = if s.flag .c then zext (loByte s.x) else s.x := by
  rw [s.exchangeCE_eq, ← narrow_w8]

theorem State.exchangeCE_y (s : State) : s.exchangeCE.y = if s.flag .c then zext (loByte s.y) else s.y := by
  rw [s.exchangeCE_eq, ← narrow_w8]

theorem State.exchangeCE_s (s : State) :
    s.exchangeCE.s = if s.flag .c then word 0x01#8 (loByte s.s) else s.s := by rw [s.exchangeCE_eq]

/-- XCE writes e, P, X, Y and S alone. -/
theorem State.exchangeCE_rest (s : State) :
    let t := s.exchangeCE
    t = { s with e := t.e, p := t.p, x := t.x, y := t.y, s := t.s } := by
  rw [s.exchangeCE_eq]

theorem State.keepsFlagsBut_exchangeCE (s : State) : s.keepsFlagsBut s.exchangeCE [.c, .m, .x] := by
  intro g hg
  simp only [List.mem_cons, List.not_mem_nil, or_false, not_or] at hg
  obtain ⟨hc, hmx⟩ := hg
  rw [s.flag_exchangeCE, if_neg hc, if_neg (not_or.mpr hmx)]

theorem State.keepsFlagsBut_exchangeCE_of_native (hc : s.flag .c = false) (he : s.e = false) :
    s.keepsFlagsBut s.exchangeCE [.c] := by
  intro g hg
  rw [s.flag_exchangeCE, if_neg (List.mem_singleton.not.mp hg), hc, he, Bool.false_or, Bool.false_or, ite_self]

/-- Bits m and x after XCE when emulation mode is on before or after (I2 of R39, R312). -/
theorem State.flag_m_x_exchangeCE (h : s.flag .c = true ∨ s.e = true) :
    s.exchangeCE.flag .m = true ∧ s.exchangeCE.flag .x = true := by
  rcases h with h | h <;> simp [State.flag_exchangeCE, h]

end Sys2Proof.Machine

/-! ## The statements of 47_misc.md -/

namespace Sys2Proof.MiscRules

open Sys2Proof Sys2Proof.Machine

/-- Settles O47: the four move PC on and set the run state, NOP and WDM to what it was. -/
theorem waitStopAndNoOperation : Obligations.WaitStopAndNoOperation := fun s _ =>
  ⟨⟨rfl, rfl⟩, s.advance_withRun .waiting 1, ⟨rfl, rfl⟩, s.advance_withRun .stopped 1,
    ⟨rfl, rfl⟩, s.advance_withRun s.run 1, ⟨rfl, rfl⟩, s.advance_withRun s.run 2⟩

/-- Settles O49: both are the one block move, with the step of X and Y up or down. -/
theorem blockMoveStep : Obligations.BlockMoveStep := by
  intro s b1 b2 hw dst src moves
  have hdst : destBank s.cfg.blockMoveOrder b1 b2 = dst := destBank_eq _ b1 b2
  have hsrc : sourceBank s.cfg.blockMoveOrder b1 b2 = src := sourceBank_eq _ b1 b2
  refine ⟨⟨rfl, rfl⟩, ?mvn, ⟨rfl, rfl⟩, ?mvp⟩
  case mvn =>
    have stored := blockMove_stores hw stepUp dst src
    rw [stepUp_eq, stepUp_eq] at stored
    rw [exec_mvn, hdst, hsrc]
    exact stored
  case mvp =>
    have stored := blockMove_stores hw stepDown dst src
    rw [stepDown_eq, stepDown_eq] at stored
    rw [exec_mvp, hdst, hsrc]
    exact stored

/-- Settles O50: by induction on C, one byte and then the rest. -/
theorem blockMoveCompletes : Obligations.BlockMoveCompletes := by
  intro s b1 b2 n dst
  obtain ⟨t, hexec, moved, hpc⟩ := execTimes_mvn b1 b2 (s := s) rfl
  have hdst : destBank s.cfg.blockMoveOrder b1 b2 = dst := destBank_eq _ b1 b2
  rw [hdst] at moved
  have hc : s.c - BitVec.ofNat 16 (s.c.toNat + 1) = 0xFFFF#16 := by bv_omega
  exact ⟨t, hexec, moved.c.trans hc, moved.x, moved.y, moved.dbr, hpc, moved.reads, by rw [moved.rest]⟩

/-- Settles O51: each clause is one of the facts about the exchange, PC moved on afterwards. -/
theorem exchangeCarryAndEmulation : Obligations.ExchangeCarryAndEmulation := by
  refine fun s => ⟨⟨rfl, rfl⟩, s.exchangeCE.advance 1, rfl, s.exchangeCE_e, s.flag_exchangeCE .c, fun hc => ?toEmulation,
    fun hc => ?toNative, fun _ he => State.flag_m_x_exchangeCE (.inr he), State.keepsFlagsBut_exchangeCE_of_native,
    s.keepsFlagsBut_exchangeCE, ?pc, ?memory, ?rest⟩
  case toEmulation =>
    obtain ⟨hm, hx⟩ := State.flag_m_x_exchangeCE (.inl hc)
    exact ⟨hm, hx, s.exchangeCE_x.trans (if_pos hc), s.exchangeCE_y.trans (if_pos hc), s.exchangeCE_s.trans (if_pos hc)⟩
  case toNative =>
    have native := Bool.eq_false_iff.mp hc
    exact ⟨s.exchangeCE_x.trans (if_neg native), s.exchangeCE_y.trans (if_neg native), s.exchangeCE_s.trans (if_neg native)⟩
  case pc => rw [s.exchangeCE_rest]; rfl
  case memory => rw [s.exchangeCE_rest]; exact fun _ _ => rfl
  case rest => rw [s.exchangeCE_rest]; rfl

end Sys2Proof.MiscRules
end

section
/-! SUPPORT. What the reset sequence leaves in each field whose value R360 fixes; and the statement of 60_exceptions.md on it. -/

namespace Sys2Proof.Machine

variable {s : State}

/-! ## The acceptance of reset (R331) -/

/-- Reset comes before NMI and IRQ, whatever the run state is (R331). -/
theorem State.boundary_reset (hreset : s.resetLine = true) : s.boundary = .reset := if_pos hreset

theorem afterSampling_of_reset (h : s.boundary = .reset) : afterSampling s = .next s.resetSequence := by
  rw [afterSampling, h]

/-- An accepted reset: its sequence from the sampled inputs. An NMI latched before or at this step is lost with the latch. -/
theorem step_of_reset (hreset : s.levels.reset = true) : step s = .next (s.withInputs false).resetSequence :=
  afterSampling_of_reset (State.boundary_reset hreset)

/-! ## The fields after the reset sequence (R360) -/

@[simp] theorem State.resetSequence_cfg : s.resetSequence.cfg = s.cfg := rfl
@[simp] theorem State.resetSequence_mem : s.resetSequence.mem = s.mem := rfl
@[simp] theorem State.resetSequence_run : s.resetSequence.run = .running := rfl
@[simp] theorem State.resetSequence_nmiPending : s.resetSequence.nmiPending = false := rfl
@[simp] theorem State.resetSequence_pc : s.resetSequence.pc = s.readVector 0xFFFC#16 := rfl
@[simp] theorem State.resetSequence_read (k : AccessKind) (a : Addr) : s.resetSequence.read k a = s.read k a := rfl

@[simp] theorem State.hiByte_s_resetSequence : hiByte s.resetSequence.s = 0x01#8 := hiByte_word _ _

/-- The 8-bit variants keep their e, which the invariant holds at 1 (I1). -/
@[simp] theorem State.resetSequence_e : s.resetSequence.e = if s.cfg.variant = .m65816 then true else s.e := rfl

@[simp] theorem State.resetSequence_d : s.resetSequence.d = if s.cfg.variant = .m65816 then 0x0000#16 else s.d := rfl
@[simp] theorem State.resetSequence_dbr : s.resetSequence.dbr = if s.cfg.variant = .m65816 then 0x00#8 else s.dbr := rfl
@[simp] theorem State.resetSequence_pbr : s.resetSequence.pbr = if s.cfg.variant = .m65816 then 0x00#8 else s.pbr := rfl

/-- Only the low byte of an index register is left open. -/
@[simp] theorem State.hiByte_resetIndex (old : Word) (site : DrawSite) :
    hiByte (s.resetIndex old site) = if s.cfg.variant = .m65816 then 0x00#8 else hiByte old := hiByte_word _ _

@[simp] theorem State.hiByte_x_resetSequence :
    hiByte s.resetSequence.x = if s.cfg.variant = .m65816 then 0x00#8 else hiByte s.x := State.hiByte_resetIndex s.x .resetX

@[simp] theorem State.hiByte_y_resetSequence :
    hiByte s.resetSequence.y = if s.cfg.variant = .m65816 then 0x00#8 else hiByte s.y := State.hiByte_resetIndex s.y .resetY

/-- IRQ is held off after reset. -/
@[simp] theorem State.flag_i_resetSequence : s.resetSequence.flag .i = true := by
  simp only [State.flag, State.resetSequence, State.resetP, getLsbD_setFlagIn, reduceCtorEq, if_true, if_false]

/-- The 6502 alone leaves d open. -/
theorem State.flag_d_resetSequence (s : State) (hv : s.cfg.variant ≠ .m6502) : s.resetSequence.flag .d = false := by
  simp only [State.flag, State.resetSequence, State.resetP, getLsbD_setFlagIn, hv, if_true, if_false]

/-- What the sequence fixes on the 65816 alone: emulation mode, and zero in what the 8-bit variants do not have. -/
theorem State.resetSequence_m65816 (s : State) (hv : s.cfg.variant = .m65816) :
    let t := s.resetSequence
    t.e = true ∧ t.flag .m = true ∧ t.flag .x = true ∧ hiByte t.x = 0x00#8 ∧ hiByte t.y = 0x00#8 ∧ t.d = 0x0000#16 ∧
      t.dbr = 0x00#8 ∧ t.pbr = 0x00#8 := by
  have fm := (s.flag_resetSequence .m (.inl rfl)).trans (if_pos hv)
  have fx := (s.flag_resetSequence .x (.inr rfl)).trans (if_pos hv)
  exact ⟨State.resetSequence_e.trans (if_pos hv), fm, fx, State.hiByte_x_resetSequence.trans (if_pos hv),
    State.hiByte_y_resetSequence.trans (if_pos hv), State.resetSequence_d.trans (if_pos hv),
    State.resetSequence_dbr.trans (if_pos hv), State.resetSequence_pbr.trans (if_pos hv)⟩

end Sys2Proof.Machine

/-! ## The statement of 60_exceptions.md on reset -/

namespace Sys2Proof.ResetRules

open Sys2Proof Sys2Proof.Machine

/-- Settles O46: the acceptance test chooses reset, and the sequence starts from the sampled state; the vector reads the same
before and after it. -/
theorem resetSequence : Obligations.ResetSequence := fun s hreset =>
  ⟨(s.withInputs false).resetSequence, step_of_reset hreset, State.resetSequence_run, State.resetSequence_nmiPending,
    State.hiByte_s_resetSequence, State.flag_i_resetSequence, (s.withInputs false).flag_d_resetSequence,
    (s.withInputs false).resetSequence_m65816, State.resetSequence_pc, fun _ _ => State.resetSequence_read _ _,
    State.resetSequence_cfg, State.resetSequence_mem⟩

end Sys2Proof.ResetRules
end
